-- ==== Sys2Proof/Word.lean ====
section
/-!
DEFINITION. The widths the spec fixes, and the plain data that instructions and state are made of:
a frame (30 R70), a command word (30 R80), the fault codes (10 R34), the four commands (30 R80) and the
fields of a frame that no fault bit stands in (30 R71).
-/

namespace Sys2Proof

/-- A 32-bit device frame, bit 31 the first bit received (00 R10, 30 R70). -/
abbrev Frame := BitVec 32

/-- A 34-bit host command word: `op` in bits 33:32, `arg` in bits 31:0 (30 R80). -/
abbrev CmdWord := BitVec 34

/-- The level of a pin: `true` is level 1 (10 R26, R27). -/
abbrev Level := Bool

/-- A signed 16-bit count of a temperature resolution, as its two's-complement pattern (10 R36, R37). -/
abbrev Count := BitVec 16

/-- The document's `FaultCode`, in the document's order (10 R34). -/
inductive FaultCode where
  | ok
  | shortToVcc
  | shortToGnd
  | openCircuit
  | unknown
  | readFailure
deriving DecidableEq, Repr

/-- The four values of a command word's `op` field (30 R80). -/
inductive CmdOp where
  | init
  | trigread
  | decode
  | decodei
deriving DecidableEq, Repr

/-- The fields of a frame other than the fault flag and the three fault bits (30 R71). -/
structure FrameFields where
  /-- `TC_S = f[31]`, the thermocouple sign. -/
  tcS : BitVec 1
  /-- `TC_V = f[30:18]`, the thermocouple magnitude. -/
  tcV : BitVec 13
  /-- `RSV17 = f[17]`, reserved, ignored. -/
  rsv17 : BitVec 1
  /-- `CJ_S = f[15]`, the cold-junction sign. -/
  cjS : BitVec 1
  /-- `CJ_V = f[14:4]`, the cold-junction magnitude. -/
  cjV : BitVec 11
  /-- `RSV3 = f[3]`, reserved, ignored. -/
  rsv3 : BitVec 1
deriving DecidableEq, Repr

/-- The words of an instruction in the two formats of the opcode table (30 R70, R80). -/
inductive Encoded where
  /-- Format `CMD`: a word offered on the command port. -/
  | cmd (w : CmdWord)
  /-- Format `FRAME`: a frame given to the decoder. -/
  | frame (f : Frame)
deriving DecidableEq, Repr

end Sys2Proof
end

