-- ==== Sys2Proof/Config.lean ====
section
/-!
DEFINITION. What is fixed for one block (the parameters of 00 R8 that a rule reads), and the free
values: what the environment supplies at a step for which nothing has been laid down (10 R46), and
what SHIFT held before its first bit (40 R105). A free value has no body: no proof can see it.
-/

namespace Sys2Proof

/-- The parameters of the block that a rule of the spec reads (00 R8, 10 R46). No step writes them.
The values given here are the spec's defaults and nominal figures (log 1, log 2); every statement
is about every configuration. Durations are in nanoseconds (DESIGN CHOICE, log 2), the clock rate in hertz. -/
structure Config where
  /-- `SIGN_POS`: the value of a sign bit that means "positive"; the spec's value is 1 (90 C1, 92 D2). -/
  signPos : BitVec 1 := 1#1
  /-- `T_POWERUP`, "≈200 ms", a lower bound (92 D9). -/
  tPowerup : Nat := 200000000
  /-- `T_TRIG`, "≥1 µs". -/
  tTrig : Nat := 1000
  /-- `T_SETTLE`, "≈100 ms", a lower bound (92 D9). -/
  tSettle : Nat := 100000000
  /-- `F_SCK`, the serial clock rate: "5 MHz maximum", "1 MHz, is a safe default" (93 U10; log 21). -/
  fSck : Nat := 1000000
  /-- `T_CS_LEAD`, from the select edge to the first clock edge: open, at least 0 (70 R258, 93 U20; log 21). -/
  tCsLead : Nat := 0
  /-- `T_CS_LAG`, from the last clock edge to the select edge: open, at least 0 (70 R258, 93 U20; log 21). -/
  tCsLag : Nat := 0
deriving DecidableEq, Repr

/-- Free value: the level of `RST` at the n-th step (10 R40; log 3). -/
opaque Config.freeRst : Nat → Bool

/-- Free value: `cmd_valid` at the n-th step (10 R40; log 3). -/
opaque Config.freeCmdValid : Nat → Bool

/-- Free value: `cmd_word` at the n-th step (10 R40; log 3). -/
opaque Config.freeCmdWord : Nat → CmdWord

/-- Free value: `BUS_AVAIL` at the n-th step (10 R40; log 3). -/
opaque Config.freeBusAvail : Nat → Bool

/-- Free value: the draw `bus_fail` at the n-th step (10 R40, 40 R111; log 3). -/
opaque Config.freeBusFail : Nat → Bool

/-- Free value: the level of `SO` at the n-th step (40 R130; log 3). -/
opaque Config.freeSo : Nat → Level

/-- Free value: the bit sampled at the n-th step when the clock is faster than its bound; above it "the
sampled bits are `any value`" (93 U10, 70 R254; log 21). -/
opaque Config.freeBit : Nat → Level

/-- Free value: whether the sequencer takes its step at the n-th step (70 R251, R256; log 5). -/
opaque Config.freeProceed : Nat → Bool

/-- Free value: the time in nanoseconds that passes up to the n-th step (10 R31, R46; log 6). -/
opaque Config.freeElapsed : Nat → Nat

/-- Free value: what SHIFT held before the first bit of the read transaction that begins its shifting
at the n-th step; "the first use of SHIFT in the loop shifts out whatever it held" (40 R105; log 8). -/
opaque Config.freeShift : Nat → BitVec 32

end Sys2Proof
end

