-- ==== Sys2Proof/Syntax.lean ====
section
/-!
DEFINITION. The instructions: one constructor per row of spec/opcode_table.json. The four commands
are what the host offers (30 R80); the six frame classes are what the decoder runs on, "classified
by match and mask exactly as an instruction decoder classifies an opcode" (30_encoding.md, R73).
-/

namespace Sys2Proof

/-- An instruction. Operands are the bits the row's encoding leaves open, so no bit is lost. -/
inductive Instr where
  /-- `INIT`; `arg` is ignored (30 R82, 40 R101). -/
  | init (arg : BitVec 32)
  /-- `TRIGREAD`; `arg` is ignored (30 R82, 40 R105). -/
  | trigread (arg : BitVec 32)
  /-- `DECODE`; `arg` is ignored, the frame is RAWFRAME (30 R82, 41 R160). -/
  | decode (arg : BitVec 32)
  /-- `DECODEI imm32`; the operand is the frame (41 R161). -/
  | decodei (f : Frame)
  /-- `FRAME.ReadFailure`: the all-zero frame (30 R73 row 1). -/
  | frameReadFailure
  /-- `FRAME.ShortToVcc`: bits 16 and 2 set; `SCG`, `OC` open (30 R73 row 2). -/
  | frameShortToVcc (t : FrameFields) (scg oc : BitVec 1)
  /-- `FRAME.ShortToGnd`: bits 16 and 1 set, bit 2 clear; `OC` open (30 R73 row 3). -/
  | frameShortToGnd (t : FrameFields) (oc : BitVec 1)
  /-- `FRAME.OpenCircuit`: bits 16 and 0 set, bits 2 and 1 clear (30 R73 row 4). -/
  | frameOpenCircuit (t : FrameFields)
  /-- `FRAME.Unknown`: bit 16 set, bits 2 to 0 clear (30 R73 row 5). -/
  | frameUnknown (t : FrameFields)
  /-- `FRAME.Ok`: bit 16 clear and the frame not zero; `low` is bits 2 to 0 (30 R73 row 6, R76). -/
  | frameOk (t : FrameFields) (low : BitVec 3)
deriving DecidableEq, Repr

end Sys2Proof
end

