-- ==== Sys2Proof/Machine/State.lean ====
section
/-!
DEFINITION. The state of the block: the registers of 10 R20, the response port (30 R83), the
configuration, and the model's own record of the environment (log 3). State.reset is the state after
reset (70 R241). The reasons a step can stop stand here too: the block has none of its own.
-/

namespace Sys2Proof.Machine

/-- `PHASE`, which stands for the program counter (10 R23, R24). Codes 6 and 7 do not exist (30 R84). -/
inductive Phase where
  /-- `P_OFF`: no session. -/
  | off
  /-- `P_PWRUP`: the power-up delay is running. -/
  | pwrup
  /-- `P_IDLE`: session held, no transaction in flight. -/
  | idle
  /-- `P_TRIG`: the trigger pulse. -/
  | trig
  /-- `P_SETTLE`: the settle time is running. -/
  | settle
  /-- `P_READ`: 32 bits are being clocked in. -/
  | read
deriving DecidableEq, Repr

/-- `STATUS`, the completion status of the last INIT or TRIGREAD (10 R32). -/
inductive Status where
  | ok
  | initError
  | busError
deriving DecidableEq, Repr

/-- The two errors of the block (60 R200); each is a completion, none stops the block. -/
inductive ErrorKind where
  /-- "the underlying bus cannot be claimed" (60 R203). -/
  | initError
  /-- "a bus-level failure (e.g., peripheral busy)" (60 R204). -/
  | busError
deriving DecidableEq, Repr

/-- What the decoder produces: a fault code, or two counts (41 R140). -/
inductive Decoded where
  | fault (c : FaultCode)
  | temps (n m : Count)
deriving DecidableEq, Repr

/-- The values the environment supplies at one step: the input ports (10 R40), and what else a step
takes from outside (10 R46). -/
structure Inputs where
  /-- `RST`. -/
  rst : Bool
  /-- `cmd_valid`: a command is offered. -/
  cmdValid : Bool
  /-- `cmd_word`: the command offered, if one is. -/
  cmdWord : CmdWord
  /-- `BUS_AVAIL`: the bus can be claimed. -/
  busAvail : Bool
  /-- The draw `bus_fail`: the transaction fails at this point. -/
  busFail : Bool
  /-- `SO`: the data line. -/
  so : Level
  /-- The environment's choice that the sequencer takes the step it is ready for (70 R251, R256; log 5). -/
  proceed : Bool
  /-- Nanoseconds passed since the step before (10 R31; log 6). -/
  elapsed : Nat
deriving DecidableEq, Repr

/-- A response, held for one step: `rsp_status` and, after a completed TRIGREAD, `rsp_frame` (30 R83). -/
structure Response where
  status : Status
  frame : Option Frame
deriving DecidableEq, Repr

/-- The state. A register that can be `no_value` is an Option: the spec's own absent value (10 R22). -/
structure State where
  /-- The configuration (00 R8); no step writes it. -/
  cfg : Config
  /-- `PHASE` (10 R24). -/
  phase : Phase
  /-- `CS_N`, low is asserted (10 R26). -/
  csN : Level
  /-- `SCK` (10 R27). -/
  sck : Level
  /-- `SHIFT` (10 R28). -/
  shift : Option (BitVec 32)
  /-- `BITCNT` (10 R29). -/
  bitcnt : BitVec 6
  /-- `TIMER`, nanoseconds in the current wait (10 R31; log 6). -/
  timer : Nat
  /-- The model's own: in P_READ, nanoseconds since `SCK` last rose, or since P_READ was entered (log 21). -/
  clkTime : Nat
  /-- The model's own: in P_READ, nanoseconds since the last edge of `CS_N` or `SCK` (log 21). -/
  edgeTime : Nat
  /-- `RAWFRAME` (10 R30). -/
  rawframe : Option Frame
  /-- `RAW_VALID` (10 R30). -/
  rawValid : Bool
  /-- `STATUS` (10 R32). -/
  status : Status
  /-- `RES_VALID` (10 R33). -/
  resValid : Bool
  /-- `FAULT` (10 R34). -/
  fault : Option FaultCode
  /-- `TEMP_VALID` (10 R35). -/
  tempValid : Bool
  /-- `TC_COUNT` (10 R36). -/
  tcCount : Option Count
  /-- `CJ_COUNT` (10 R37). -/
  cjCount : Option Count
  /-- `TC_F20` (10 R38). -/
  tcF20 : Option (BitVec 18)
  /-- `CJ_F80` (10 R39). -/
  cjF80 : Option (BitVec 16)
  /-- The response the last step made: `some` is `rsp_valid = 1` (30 R83; log 12). -/
  rsp : Option Response
  /-- The model's own: what the environment supplies at the coming steps, oldest first (log 3). -/
  env : List Inputs
  /-- The model's own: the number of steps taken, the index of the next free value (log 3). -/
  draws : Nat
deriving DecidableEq, Repr

/-- Why a step stops with a fault. There is no such reason: `InitError` and `BusError` are
completions after which the block goes on, and the decoder never fails (60 R202, R210, R224; log 10).
Safe: nothing is stopped that the spec lets run. -/
inductive Fault where
deriving DecidableEq, Repr

/-- Why an instruction has no meaning. -/
inductive Refusal where
  /-- Raised by the arms of exec that have no meaning yet, by the mnemonic; no arm raises it now. Safe. -/
  | notModelled (mnemonic : String)
deriving DecidableEq, Repr

/-- The state right after reset (70 R241). The configuration holds the spec's default and nominal
values (log 1, log 2, log 21); `rsp`, `env`, `draws` and the two clock times are the model's choice
(log 4, log 12, log 21). -/
def State.reset : State :=
  { cfg := {}
    phase := .off
    csN := true
    sck := false
    shift := none
    bitcnt := 0#6
    timer := 0
    clkTime := 0
    edgeTime := 0
    rawframe := none
    rawValid := false
    status := .ok
    resValid := false
    fault := none
    tempValid := false
    tcCount := none
    cjCount := none
    tcF20 := none
    cjF80 := none
    rsp := none
    env := []
    draws := 0 }

end Sys2Proof.Machine
end

