-- ==== Sys2Proof/Machine/Ops.lean ====
section
/-!
DEFINITION. The operations every step is made of: reading the input ports, the passing of a step,
reset, the response, the two error completions, and the admission test of a command.
-/

namespace Sys2Proof.Machine

/-- The inputs of the n-th step where nothing has been laid down for it: free values (10 R46; log 3). -/
def Inputs.free (n : Nat) : Inputs :=
  { rst := Config.freeRst n
    cmdValid := Config.freeCmdValid n
    cmdWord := Config.freeCmdWord n
    busAvail := Config.freeBusAvail n
    busFail := Config.freeBusFail n
    so := Config.freeSo n
    proceed := Config.freeProceed n
    elapsed := Config.freeElapsed n }

/-- The input ports at the coming step (10 R40; log 3). -/
def State.inputs (s : State) : Inputs :=
  match s.env with
  | i :: _ => i
  | [] => Inputs.free s.draws

/-- A step passes and no register changes: its inputs are used up, and the response of the step
before, which lasts one step (30 R83), is over. -/
def State.pass (s : State) : State :=
  { s with env := s.env.tail, draws := s.draws + 1, rsp := none }

/-- "every register takes the value in the table of rule R241, whatever the block was doing"; a
command in progress is abandoned with no response (70 R240). The configuration is no register. -/
def State.onReset (s : State) : State :=
  { State.reset with cfg := s.cfg, env := s.env.tail, draws := s.draws + 1 }

/-- The block responds (30 R83). -/
def State.respond (st : Status) (f : Option Frame) (s : State) : State :=
  { s with rsp := some ⟨st, f⟩ }

/-- An error completion; "Nothing is saved: there is no return address, no saved status, no stack, no
handler, no vector" (60 R210). `InitError`: STATUS and the response, nothing else (60 R203, 40 R104).
`BusError`: the select line is released, the clock idle, SHIFT has no value, the phase is P_IDLE;
RAWFRAME, RAW_VALID and BITCNT keep what they held (60 R204, 40 R111, 90 C10). -/
def State.raise (e : ErrorKind) (s : State) : State :=
  match e with
  | .initError => { s with status := .initError }.respond .initError none
  | .busError =>
    { s with
      csN := true
      sck := false
      shift := none
      timer := 0
      clkTime := 0
      edgeTime := 0
      phase := .idle
      status := .busError }.respond .busError none

/-- A command is in progress: the phases in which no command is accepted (20 R62). -/
def State.busy (s : State) : Bool :=
  match s.phase with
  | .off => false
  | .idle => false
  | .pwrup => true
  | .trig => true
  | .settle => true
  | .read => true

/-- `cmd_ready`: would this command be accepted now (30 R81). -/
def State.cmdReady (op : CmdOp) (s : State) : Bool :=
  match op with
  | .init => decide (s.phase = .off)
  | .trigread => decide (s.phase = .idle)
  | .decode => decide (s.phase = .off ∨ s.phase = .idle) && s.rawValid
  | .decodei => decide (s.phase = .off ∨ s.phase = .idle)

end Sys2Proof.Machine
end

