-- ==== Sys2Proof/Machine/Sequencer.lean ====
section
/-!
DEFINITION. The sequencer: the steps IN1, IN2, TR1 to TR5 of 40_bus_transactor.md (IN-E and TR-E are
State.raise), and the step the block takes while a command is in progress.
-/

namespace Sys2Proof.Machine

/-- Step IN1: INIT accepted, bus available (40 R102). The power-up wait begins. -/
def State.stepIN1 (s : State) : State :=
  { s with csN := true, sck := false, phase := .pwrup, timer := 0 }

/-- Step IN2: the power-up delay is over (40 R103). -/
def State.stepIN2 (s : State) : State :=
  { s with phase := .idle, status := .ok, timer := 0 }.respond .ok none

/-- Step TR1: the trigger pulse begins (40 R106). -/
def State.stepTR1 (s : State) : State :=
  { s with csN := false, phase := .trig, timer := 0 }

/-- Step TR2: the trigger pulse ends, the settle wait begins (40 R107). -/
def State.stepTR2 (s : State) : State :=
  { s with csN := true, phase := .settle, timer := 0 }

/-- Step TR3: the settle time is over, the read transaction begins; the falling edge of CS_N is the
frame synchronisation point (40 R108, 20 R55). -/
def State.stepTR3 (s : State) : State :=
  { s with csN := false, bitcnt := 0#6, phase := .read, timer := 0, clkTime := 0, edgeTime := 0 }

/-- Step TR4, first half: SCK rises, a clock period begins, the device presents the bit (40 R109; log 7). -/
def State.stepTR4Rise (s : State) : State := { s with sck := true, clkTime := 0, edgeTime := 0 }

/-- `(SHIFT << 1)[31:0] | zext_32(b)` (40 R109, 10 R28). -/
def shiftIn (v : BitVec 32) (b : Level) : BitVec 32 := (v <<< 1) ||| (BitVec.ofBool b).setWidth 32

/-- Step TR4, second half: SCK falls and the block samples `SO` (40 R109; log 7). What SHIFT held
before the first bit is the free value `old` (40 R105; log 8). -/
def State.stepTR4Fall (old : BitVec 32) (so : Level) (s : State) : State :=
  { s with
    sck := false
    edgeTime := 0
    shift := some (shiftIn (s.shift.getD old) so)
    bitcnt := s.bitcnt + 1#6 }

/-- Step TR5: the frame is complete; RAWFRAME is written whole, in one step (40 R110, 20 R58). -/
def State.stepTR5 (s : State) : State :=
  { s with
    csN := true
    rawframe := s.shift
    rawValid := true
    shift := none
    clkTime := 0
    edgeTime := 0
    status := .ok
    phase := .idle }.respond .ok s.shift

/-- A step of a wait that goes on: the time that has passed is added to TIMER (10 R31; log 6). -/
def State.passTime (s : State) : State := { s.pass with timer := s.timer + s.inputs.elapsed }

/-- One step of a wait: time passes, and the wait ends at a moment of the environment's choosing that
is not earlier than `bound` after it began (70 R251; log 5, log 6). -/
def State.waitStep (bound : Nat) (done : State → State) (s : State) : State :=
  if s.inputs.proceed = true ∧ bound ≤ s.timer + s.inputs.elapsed then done s.pass
  else s.passTime

/-- The settle wait is over: TR3, or TR-E in its place when the draw `bus_fail` is 1 (40 R108, R111; log 17). -/
def State.settled (fail : Bool) (s : State) : State :=
  if fail then s.raise .busError else s.stepTR3

/-- A step of P_READ in which no pin moves: the time that has passed is added to both clock times (log 21). -/
def State.passClock (s : State) : State :=
  { s.pass with
    clkTime := s.clkTime + s.inputs.elapsed
    edgeTime := s.edgeTime + s.inputs.elapsed }

/-- Has a clock period, `1 / F_SCK`, passed in `t` nanoseconds (40 R109, 70 R254; log 21)? -/
def periodOver (c : Config) (t : Nat) : Bool := decide (1000000000 ≤ t * c.fSck)

/-- The next bit may begin: `T_CS_LEAD` after the select edge for the first, a clock period after the
rising edge before for every other (70 R254, R258; log 21). -/
def State.bitDue (s : State) : Bool :=
  if s.bitcnt = 0#6 then decide (s.cfg.tCsLead ≤ s.edgeTime + s.inputs.elapsed)
  else periodOver s.cfg (s.clkTime + s.inputs.elapsed)

/-- The select line may be released: the last clock period is over, and `T_CS_LAG` has passed since the
last clock edge (70 R254, R258; log 21). -/
def State.releaseDue (s : State) : Bool :=
  periodOver s.cfg (s.clkTime + s.inputs.elapsed) && decide (s.cfg.tCsLag ≤ s.edgeTime + s.inputs.elapsed)

/-- `SampleSO()` at the falling edge (40 R109, 70 R255): the level of `SO`, and with a clock faster than
5 MHz any value (70 R254, 93 U10; log 21). -/
def State.sampledBit (s : State) : Level :=
  if s.cfg.fSck ≤ 5000000 then s.inputs.so else Config.freeBit s.draws

/-- A sequencer step in P_READ: TR5 once BITCNT is 32, else a half of TR4, or TR-E in place of a TR4
when the draw `bus_fail`, made when the bit is due, is 1 (40 R109 to R111, 60 R209; log 17). Until the
edge is due only time passes (log 21). With BITCNT above 32, which is never reached, no step is enabled
(93 Part 2; log 18). -/
def State.readStep (s : State) : State :=
  if s.bitcnt = 32#6 then
    if s.releaseDue then s.pass.stepTR5 else s.passClock
  else if s.bitcnt < 32#6 then
    if s.sck then s.passClock.stepTR4Fall (Config.freeShift s.draws) s.sampledBit
    else if s.bitDue then
      if s.inputs.busFail then s.pass.raise .busError else s.pass.stepTR4Rise
    else s.passClock
  else s.passClock

/-- The step of the sequencer (40 R100): the step the phase names, if it is enabled and the
environment lets it be taken; in P_OFF and P_IDLE none is enabled, so the block never starts a
transaction on its own (42 R183). -/
def State.sequence (s : State) : State :=
  match s.phase with
  | .off => s.pass
  | .idle => s.pass
  | .pwrup => s.waitStep s.cfg.tPowerup State.stepIN2
  | .trig => s.waitStep s.cfg.tTrig State.stepTR2
  | .settle => s.waitStep s.cfg.tSettle (State.settled s.inputs.busFail)
  | .read => if s.inputs.proceed then s.readStep else s.passClock

end Sys2Proof.Machine
end

