-- ==== Sys2Proof/Machine/BusTransactor.lean ====
section
/-!
DEFINITION. The meanings of the BusTransactor's commands, INIT and TRIGREAD: what the step in which
one is offered between commands does. What follows an accepted one is the sequencer's (State.sequence).
-/

namespace Sys2Proof.Machine

/-- `INIT` (40 R101). Accepted only in P_OFF: with the bus available step IN1 (R102), else step IN-E
(R104), "the bus-availability test comes before everything else" (60 R209). Not accepted, it changes
nothing (60 R207; log 9). -/
def execInit (_arg : BitVec 32) (s : State) : Host.Outcome State Fault Refusal :=
  .next (if s.cmdReady .init then
      if s.inputs.busAvail then s.pass.stepIN1 else s.pass.raise .initError
    else s.pass)

/-- `TRIGREAD` (40 R105). Accepted only in P_IDLE, with step TR1 (R106); steps TR2 to TR5 or TR-E
follow. Not accepted, it changes nothing (60 R207; log 9). -/
def execTrigread (_arg : BitVec 32) (s : State) : Host.Outcome State Fault Refusal :=
  .next (if s.cmdReady .trigread then s.pass.stepTR1 else s.pass)

end Sys2Proof.Machine
end

