-- ==== Sys2Proof/Machine/Operands.lean ====
section
/-!
DEFINITION. The pure functions of the FrameDecoder: field extraction, classification, sign handling,
scaling, the whole decoder and its inverse on counts. They read the frame and SIGN_POS, nothing else (41 R140).
-/

namespace Sys2Proof.Machine

/-- `Extract(f, pos, w) = (f >> pos) & (2^w - 1)` (41 R141). -/
def extract (f : Frame) (pos w : Nat) : BitVec w := (f >>> pos).setWidth w

/-- `Classify(f)`, the document's fault detection in its fixed order (41 R143, R144). -/
def classify (f : Frame) : FaultCode :=
  if f = 0#32 then .readFailure
  else if extract f 16 1 = 1#1 then
    if extract f 2 1 = 1#1 then .shortToVcc
    else if extract f 1 1 = 1#1 then .shortToGnd
    else if extract f 0 1 = 1#1 then .openCircuit
    else .unknown
  else .ok

/-- `SignedCount(v, s, W)`: the field itself when the sign bit means "positive", else the 16-bit
word `((0xFFFF >> W) << W) | v` read as a signed number (41 R146). -/
def signedCount {W : Nat} (signPos : BitVec 1) (v : BitVec W) (s : BitVec 1) : Count :=
  if s = signPos then v.setWidth 16
  else ((0xFFFF#16 >>> W) <<< W) ||| v.setWidth 16

/-- The thermocouple count of a frame (41 R151). -/
def tcCountOf (signPos : BitVec 1) (f : Frame) : Count :=
  signedCount signPos (extract f 18 13) (extract f 31 1)

/-- The cold-junction count of a frame (41 R151). -/
def cjCountOf (signPos : BitVec 1) (f : Frame) : Count :=
  signedCount signPos (extract f 4 11) (extract f 15 1)

/-- `Decode(f)`, the whole decoder (41 R151). -/
def decodeReading (signPos : BitVec 1) (f : Frame) : Decoded :=
  match classify f with
  | .ok => .temps (tcCountOf signPos f) (cjCountOf signPos f)
  | .shortToVcc => .fault .shortToVcc
  | .shortToGnd => .fault .shortToGnd
  | .openCircuit => .fault .openCircuit
  | .unknown => .fault .unknown
  | .readFailure => .fault .readFailure

/-- `TC_F20 = 9 * sext_18(n) + 640` (41 R150, R162). -/
def tcFahrenheit (n : Count) : BitVec 18 := 9#18 * n.signExtend 18 + 640#18

/-- `CJ_F80 = 9 * m + 2560` (41 R150, R162). -/
def cjFahrenheit (m : Count) : BitVec 16 := 9#16 * m + 2560#16

/-- The sign bit of a count: `SIGN_POS` if it is not negative, else `1 - SIGN_POS` (41 R166). -/
def signBit (signPos : BitVec 1) (n : Int) : BitVec 1 := if 0 ≤ n then signPos else 1#1 - signPos

/-- `Encode(n, m)`, the inverse of the decoder on counts (41 R166). -/
def encodeTemps (signPos : BitVec 1) (n m : Int) : Frame :=
  ((signBit signPos n).setWidth 32 <<< 31) ||| ((BitVec.ofInt 13 n).setWidth 32 <<< 18) |||
    ((signBit signPos m).setWidth 32 <<< 15) ||| ((BitVec.ofInt 11 m).setWidth 32 <<< 4)

end Sys2Proof.Machine
end

