-- ==== Sys2Proof/Machine/Flags.lean ====
section
/-!
DEFINITION. The flags and result registers a decode writes, all in one step (41 R162, R163).
-/

namespace Sys2Proof.Machine

/-- `WriteResult(r)`, the common last step of DECODE and DECODEI (41 R162, R163). -/
def State.writeResult (r : Decoded) (s : State) : State :=
  match r with
  | .temps n m =>
    { s with
      fault := some .ok
      resValid := true
      tempValid := true
      tcCount := some n
      cjCount := some m
      tcF20 := some (tcFahrenheit n)
      cjF80 := some (cjFahrenheit m) }
  | .fault c =>
    { s with
      fault := some c
      resValid := true
      tempValid := false
      tcCount := none
      cjCount := none
      tcF20 := none
      cjF80 := none }

/-- A decode completes in this step: the result is written, and the response carries `ST_OK` always
(30 R83). STATUS is not written (10 R32). -/
def State.completeDecode (r : Decoded) (s : State) : State :=
  (s.pass.writeResult r).respond .ok none

end Sys2Proof.Machine
end

