-- ==== Sys2Proof/Machine/FrameDecoder.lean ====
section
/-!
DEFINITION. The meanings of the FrameDecoder's commands, DECODE and DECODEI, and of the six frame
classes they run on. A frame is fetched by an accepted DECODE (from RAWFRAME) or DECODEI (from the
command), in the one step of that command (41 R160, R161; log 11).
-/

namespace Sys2Proof.Machine

/-- `DECODE` (41 R160). Refused with RAW_VALID = 0, "because RAWFRAME holds no value"; a state whose
RAW_VALID is 1 while RAWFRAME holds none is never reached and is refused too (10 R22; log 18). -/
def execDecode (_arg : BitVec 32) (s : State) : Host.Outcome State Fault Refusal :=
  .next (if s.cmdReady .decode then
      match s.rawframe with
      | some f => s.completeDecode (decodeReading s.cfg.signPos f)
      | none => s.pass
    else s.pass)

/-- `DECODEI imm32` (41 R161). -/
def execDecodei (f : Frame) (s : State) : Host.Outcome State Fault Refusal :=
  .next (if s.cmdReady .decodei then s.completeDecode (decodeReading s.cfg.signPos f) else s.pass)

/-- `FRAME.ReadFailure` (30 R73 row 1, 41 R163). -/
def execFrameReadFailure (s : State) : Host.Outcome State Fault Refusal :=
  .next (s.completeDecode (.fault .readFailure))

/-- `FRAME.ShortToVcc` (30 R73 row 2, 41 R163); the other fields are not examined (41 R143). -/
def execFrameShortToVcc (_t : FrameFields) (_scg _oc : BitVec 1) (s : State) :
    Host.Outcome State Fault Refusal :=
  .next (s.completeDecode (.fault .shortToVcc))

/-- `FRAME.ShortToGnd` (30 R73 row 3, 41 R163). -/
def execFrameShortToGnd (_t : FrameFields) (_oc : BitVec 1) (s : State) :
    Host.Outcome State Fault Refusal :=
  .next (s.completeDecode (.fault .shortToGnd))

/-- `FRAME.OpenCircuit` (30 R73 row 4, 41 R163). -/
def execFrameOpenCircuit (_t : FrameFields) (s : State) : Host.Outcome State Fault Refusal :=
  .next (s.completeDecode (.fault .openCircuit))

/-- `FRAME.Unknown`, the defensive class (30 R73 row 5, R77, 41 R163). -/
def execFrameUnknown (_t : FrameFields) (s : State) : Host.Outcome State Fault Refusal :=
  .next (s.completeDecode (.fault .unknown))

/-- `FRAME.Ok` (30 R73 row 6): the two temperatures (41 R146, R162). The reserved bits and bits 2 to 0
are ignored (30 R75, R76). -/
def execFrameOk (t : FrameFields) (_low : BitVec 3) (s : State) : Host.Outcome State Fault Refusal :=
  .next (s.completeDecode
    (.temps (signedCount s.cfg.signPos t.tcV t.tcS) (signedCount s.cfg.signPos t.cjV t.cjS)))

end Sys2Proof.Machine
end

