-- ==== Sys2Proof/Machine/Dispatch.lean ====
section
/-!
DEFINITION. One arm per constructor of Instr: each calls the meaning of its instruction.
-/

namespace Sys2Proof.Machine

def exec (i : Instr) (s : State) : Host.Outcome State Fault Refusal :=
  match i with
  -- the commands (30 R80)
  | .init arg => Sys2Proof.Machine.execInit arg s
  | .trigread arg => Sys2Proof.Machine.execTrigread arg s
  | .decode arg => Sys2Proof.Machine.execDecode arg s
  | .decodei f => Sys2Proof.Machine.execDecodei f s
  -- the frame classes (30 R73)
  | .frameReadFailure => Sys2Proof.Machine.execFrameReadFailure s
  | .frameShortToVcc t scg oc => Sys2Proof.Machine.execFrameShortToVcc t scg oc s
  | .frameShortToGnd t oc => Sys2Proof.Machine.execFrameShortToGnd t oc s
  | .frameOpenCircuit t => Sys2Proof.Machine.execFrameOpenCircuit t s
  | .frameUnknown t => Sys2Proof.Machine.execFrameUnknown t s
  | .frameOk t low => Sys2Proof.Machine.execFrameOk t low s

end Sys2Proof.Machine
end

