-- ==== Sys2Proof/WellFormed.lean ====
section
/-!
DEFINITION. Which instruction terms stand for words of the encoding, and which configurations the
spec admits.
-/

namespace Sys2Proof

/-- The fields of a frame all of whose bits are zero. -/
def FrameFields.zero : FrameFields := ⟨0, 0, 0, 0, 0, 0⟩

/-- An instruction term is well formed when some word decodes to it. The one term that no word
decodes to is `FRAME.Ok` with every bit zero: the all-zero frame "matches both and is `ReadFailure`"
(30 R74; log 20). -/
def Instr.wellFormed : Instr → Bool
  | .init _ => true
  | .trigread _ => true
  | .decode _ => true
  | .decodei _ => true
  | .frameReadFailure => true
  | .frameShortToVcc _ _ _ => true
  | .frameShortToGnd _ _ => true
  | .frameOpenCircuit _ => true
  | .frameUnknown _ => true
  | .frameOk t low => !(t = FrameFields.zero && low = 0#3)

/-- A configuration the spec admits: `T_TRIG` is "≥1 µs", 1000 ns (00 R8, 70 R252), and `F_SCK` is a
rate of at most 5 MHz (00 R8, 70 R248, R254). -/
def Config.wellFormed (c : Config) : Bool :=
  decide (1000 ≤ c.tTrig) && decide (1 ≤ c.fSck) && decide (c.fSck ≤ 5000000)

end Sys2Proof
end

