-- ==== Sys2Proof/Decode.lean ====
section
/-!
DEFINITION. From words to instructions and back: the host command word (30 R80), the device frame
classified by mask and match in the order of 30 R73, the bytes of a frame (20 R53), the decoder of a
table word, which rejects by name, and the encoder.
-/

namespace Sys2Proof

/-- A row of the opcode table: a word matches it when `w &&& mask = pattern` (30 R73). -/
structure Row (n : Nat) where
  mask : BitVec n
  pattern : BitVec n
deriving DecidableEq, Repr

/-- A word matches a row: `f & mask == match` (30 R73). -/
def Row.covers {n : Nat} (r : Row n) (w : BitVec n) : Bool := w &&& r.mask == r.pattern

/-- The row of each command (spec/opcode_table.json, 30 R80). -/
def cmdRow : CmdOp → Row 34
  | .init => ⟨0x300000000#34, 0x000000000#34⟩
  | .trigread => ⟨0x300000000#34, 0x100000000#34⟩
  | .decode => ⟨0x300000000#34, 0x200000000#34⟩
  | .decodei => ⟨0x300000000#34, 0x300000000#34⟩

/-- The row of each frame class (30 R73). -/
def frameRow : FaultCode → Row 32
  | .readFailure => ⟨0xFFFFFFFF#32, 0x00000000#32⟩
  | .shortToVcc => ⟨0x00010004#32, 0x00010004#32⟩
  | .shortToGnd => ⟨0x00010006#32, 0x00010002#32⟩
  | .openCircuit => ⟨0x00010007#32, 0x00010001#32⟩
  | .unknown => ⟨0x00010007#32, 0x00010000#32⟩
  | .ok => ⟨0x00010000#32, 0x00000000#32⟩

/-- The class of a frame: the rows of 30 R73 tested in the order given, the first that matches wins. -/
def rowClass (f : Frame) : FaultCode :=
  if (frameRow .readFailure).covers f then .readFailure
  else if (frameRow .shortToVcc).covers f then .shortToVcc
  else if (frameRow .shortToGnd).covers f then .shortToGnd
  else if (frameRow .openCircuit).covers f then .openCircuit
  else if (frameRow .unknown).covers f then .unknown
  else .ok

/-- The `op` field of a command word, bits 33:32 (30 R80). -/
def opField (w : CmdWord) : BitVec 2 := w.extractLsb' 32 2

/-- The `arg` field of a command word, bits 31:0 (30 R80). -/
def argField (w : CmdWord) : BitVec 32 := w.extractLsb' 0 32

/-- The command with a given `op` field: "all four values of `op` are defined" (30 R80, R84). -/
def cmdOf (op : BitVec 2) : CmdOp :=
  if op = 0#2 then .init
  else if op = 1#2 then .trigread
  else if op = 2#2 then .decode
  else .decodei

/-- The command that a command word stands for; every word stands for one (30 R80, R84). -/
def decodeCommand (w : CmdWord) : Instr :=
  match cmdOf (opField w) with
  | .init => .init (argField w)
  | .trigread => .trigread (argField w)
  | .decode => .decode (argField w)
  | .decodei => .decodei (argField w)

/-- The fields of a frame outside the fault flag and the fault bits (30 R71). -/
def frameFields (f : Frame) : FrameFields :=
  { tcS := f.extractLsb' 31 1
    tcV := f.extractLsb' 18 13
    rsv17 := f.extractLsb' 17 1
    cjS := f.extractLsb' 15 1
    cjV := f.extractLsb' 4 11
    rsv3 := f.extractLsb' 3 1 }

/-- The frame instruction that a frame stands for; every frame stands for one (30 R73, R77). -/
def decodeFrame (f : Frame) : Instr :=
  match rowClass f with
  | .readFailure => .frameReadFailure
  | .shortToVcc => .frameShortToVcc (frameFields f) (f.extractLsb' 1 1) (f.extractLsb' 0 1)
  | .shortToGnd => .frameShortToGnd (frameFields f) (f.extractLsb' 0 1)
  | .openCircuit => .frameOpenCircuit (frameFields f)
  | .unknown => .frameUnknown (frameFields f)
  | .ok => .frameOk (frameFields f) (f.extractLsb' 0 3)

/-- The instruction that the words of an encoding stand for. -/
def decode : Encoded → Instr
  | .cmd w => decodeCommand w
  | .frame f => decodeFrame f

/-- The frame made of the four bytes received, `B0 :: B1 :: B2 :: B3`, the first received on top (20 R53). -/
def frameOfBytes (b0 b1 b2 b3 : BitVec 8) : Frame := b0 ++ b1 ++ b2 ++ b3

/-- Why a number is no word of the encoding. -/
inductive DecodeError where
  /-- It has a bit above bit 33, and a command word is 34 bits (30 R80). -/
  | commandTooWide
  /-- It has a bit above bit 31, and a frame is exactly 32 bits (20 R51). -/
  | frameTooWide
deriving DecidableEq, Repr

/-- The decoder of a table word of `nbits` bits: up to 32 bits a frame, above that a command word
(30 R70, R80; log 14). -/
def decodeBits (nbits w : Nat) : Except DecodeError Instr :=
  if nbits ≤ 32 then
    if w < 2 ^ 32 then .ok (decodeFrame (BitVec.ofNat 32 w)) else .error .frameTooWide
  else
    if w < 2 ^ 34 then .ok (decodeCommand (BitVec.ofNat 34 w)) else .error .commandTooWide

/-- The instruction the decoder reads from a table word; none where it refuses. -/
def decodeTableWord (nbits w : Nat) : Option Instr :=
  match decodeBits nbits w with
  | .ok i => some i
  | .error _ => none

/-- A command word from its two fields, `op :: arg` (30 R80). -/
def cmdWordOf (op : BitVec 2) (arg : BitVec 32) : CmdWord := op ++ arg

/-- A frame from its fields, bit 31 first (30 R71). -/
def frameOf (t : FrameFields) (flt scv scg oc : BitVec 1) : Frame :=
  t.tcS ++ t.tcV ++ t.rsv17 ++ flt ++ t.cjS ++ t.cjV ++ t.rsv3 ++ scv ++ scg ++ oc

/-- The words of an instruction (30 R71, R73, R80). -/
def encode : Instr → Encoded
  | .init arg => .cmd (cmdWordOf 0#2 arg)
  | .trigread arg => .cmd (cmdWordOf 1#2 arg)
  | .decode arg => .cmd (cmdWordOf 2#2 arg)
  | .decodei f => .cmd (cmdWordOf 3#2 f)
  | .frameReadFailure => .frame 0#32
  | .frameShortToVcc t scg oc => .frame (frameOf t 1#1 1#1 scg oc)
  | .frameShortToGnd t oc => .frame (frameOf t 1#1 0#1 1#1 oc)
  | .frameOpenCircuit t => .frame (frameOf t 1#1 0#1 0#1 1#1)
  | .frameUnknown t => .frame (frameOf t 1#1 0#1 0#1 0#1)
  | .frameOk t low =>
    .frame (frameOf t 0#1 (low.extractLsb' 2 1) (low.extractLsb' 1 1) (low.extractLsb' 0 1))

end Sys2Proof
end

