-- ==== Sys2Proof/Machine/Fetch.lean ====
section
/-!
DEFINITION. Where a step takes its instruction: the command port (30 R80), and how a word is put there.
-/

namespace Sys2Proof.Machine

/-- The instruction offered on the command port, if one is (30 R80). -/
def State.offered (s : State) : Option Instr :=
  if s.inputs.cmdValid then some (decodeCommand s.inputs.cmdWord) else none

/-- The host offers a command word at the coming step, and the reset input is not asserted there; the
other inputs of that step stay as they are. -/
def State.offer (w : CmdWord) (s : State) : State :=
  { s with env := { s.inputs with rst := false, cmdValid := true, cmdWord := w } :: s.env.tail }

/-- No command is in progress: a block found inside one is put where it is between commands, in
P_IDLE with both output lines idle (60 R223); any other state stays as it is. -/
def State.settleDown (s : State) : State :=
  if s.busy then
    { s with
      phase := .idle, csN := true, sck := false, shift := none, timer := 0, clkTime := 0, edgeTime := 0 }
  else s

/-- The command word that brings a table word to the block: a frame is brought by `DECODEI` (41 R161;
log 11), a command by itself. -/
def carrier (nbits w : Nat) : CmdWord :=
  if nbits ≤ 32 then cmdWordOf 3#2 (BitVec.ofNat 32 w) else BitVec.ofNat 34 w

end Sys2Proof.Machine
end

