-- ==== Sys2Proof/Machine/Step.lean ====
section
/-!
DEFINITION. One step of the block. Reset overrides everything (70 R240, 60 R209); while a command is in
progress the sequencer takes its step and no command is accepted (20 R62); between commands the
command offered, if one is, is run.
-/

namespace Sys2Proof.Machine

/-- One step. -/
def step (s : State) : Host.Outcome State Fault Refusal :=
  if s.inputs.rst then .next s.onReset
  else if s.busy then .next s.sequence
  else
    match s.offered with
    | some i => exec i s
    | none => .next s.sequence

/-- The state with a table word offered at the coming step, between commands (log 13). -/
def State.withFetchWord (s : State) (nbits w : Nat) : State :=
  s.settleDown.offer (carrier nbits w)

end Sys2Proof.Machine
end

