-- ==== Sys2Proof/Machine/Ports.lean ====
section
/-!
DEFINITION. What the host and the device see: the codes of the enumerations, the output ports
(10 R41), the TemperatureReading view (10 R42) and the edges on the pins (40 R112). A read has no side
effect (92 D29), so these are functions of the state.
-/

namespace Sys2Proof.Machine

/-- The codes of `PHASE` (10 R24). -/
def Phase.code : Phase → BitVec 3
  | .off => 0
  | .pwrup => 1
  | .idle => 2
  | .trig => 3
  | .settle => 4
  | .read => 5

/-- The codes of `STATUS` (10 R32). -/
def Status.code : Status → BitVec 2
  | .ok => 0
  | .initError => 1
  | .busError => 2

end Sys2Proof.Machine

/-- The codes of `FAULT` (10 R34). -/
def Sys2Proof.FaultCode.code : Sys2Proof.FaultCode → BitVec 3
  | .ok => 0
  | .shortToVcc => 1
  | .shortToGnd => 2
  | .openCircuit => 3
  | .unknown => 4
  | .readFailure => 5

namespace Sys2Proof.Machine

/-- `SESSION`: the condition `PHASE != P_OFF` (10 R25). -/
def State.session (s : State) : Bool := decide (s.phase ≠ .off)

/-- The output ports (10 R41). -/
structure Outputs where
  csN : Level
  sck : Level
  rspValid : Bool
  rspStatus : Option (BitVec 2)
  rspFrame : Option Frame
  rawValid : Bool
  resValid : Bool
  fault : Option (BitVec 3)
  tempValid : Bool
  tcCount : Option Count
  cjCount : Option Count
  tcF20 : Option (BitVec 18)
  cjF80 : Option (BitVec 16)
deriving DecidableEq, Repr

/-- The output ports of a state (10 R41, 30 R83); `cmd_ready` is State.cmdReady. -/
def State.outputs (s : State) : Outputs :=
  { csN := s.csN
    sck := s.sck
    rspValid := s.rsp.isSome
    rspStatus := s.rsp.map (fun r => r.status.code)
    rspFrame := s.rsp.bind (fun r => r.frame)
    rawValid := s.rawValid
    resValid := s.resValid
    fault := s.fault.map FaultCode.code
    tempValid := s.tempValid
    tcCount := s.tcCount
    cjCount := s.cjCount
    tcF20 := s.tcF20
    cjF80 := s.cjF80 }

/-- The document's `TemperatureReading` (10 R42): the fault code, and the four temperatures where
there are any (90 C8), as exact rationals. -/
structure Reading where
  fault : FaultCode
  thermocoupleC : Option ℚ
  thermocoupleF : Option ℚ
  coldJunctionC : Option ℚ
  coldJunctionF : Option ℚ
deriving DecidableEq

/-- The view of the result registers, defined only when RES_VALID = 1; the temperatures only when
TEMP_VALID = 1 (10 R42). -/
def State.reading (s : State) : Option Reading :=
  if s.resValid then
    s.fault.map fun c =>
      if s.tempValid then
        { fault := c
          thermocoupleC := s.tcCount.map fun n => (n.toInt : ℚ) / 4
          thermocoupleF := s.tcF20.map fun x => (x.toInt : ℚ) / 20
          coldJunctionC := s.cjCount.map fun m => (m.toInt : ℚ) / 16
          coldJunctionF := s.cjF80.map fun x => (x.toInt : ℚ) / 80 }
      else ⟨c, none, none, none, none⟩
  else none

/-- An edge on one of the two output pins (40 R112). -/
inductive PinEvent where
  | csFall
  | csRise
  | sckRise
  | sckFall
deriving DecidableEq, Repr

/-- The edge of one pin between two levels. -/
def edge (fall rise : PinEvent) (before after : Level) : List PinEvent :=
  match before, after with
  | true, false => [fall]
  | false, true => [rise]
  | _, _ => []

/-- The edges a step made, told from the states before and after it (40 R112). The only step that moves
both pins is a reset in the middle of a bit, and the spec does not say which edge comes first there (70
R240); DESIGN CHOICE (log 22): the trace lists the select edge before the clock edge. -/
def pinEdges (before after : State) : List PinEvent :=
  edge .csFall .csRise before.csN after.csN ++ edge .sckFall .sckRise before.sck after.sck

end Sys2Proof.Machine
end

