-- ==== Sys2Proof/Machine/Sample.lean ====
section
/-!
DEFINITION. The pseudo-instruction SAMPLE (30 R88, 42 R180): it has no encoding of its own, the host
issues its expansion.
-/

namespace Sys2Proof.Machine

/-- The first word of `SAMPLE`: `TRIGREAD` (42 R180). -/
def sampleFirst : CmdWord := 0x100000000#34

/-- The second word of `SAMPLE`: `DECODE`, "only if that ended `ST_OK`" (30 R88, 42 R180). -/
def sampleSecond (st : Status) : Option CmdWord :=
  match st with
  | .ok => some 0x200000000#34
  | .initError => none
  | .busError => none

end Sys2Proof.Machine
end

