-- ==== Sys2Proof/Safety.lean ====
section
/-!
DEFINITION. The terms claims about runs are made in: the invariant of the block (10 R47), the states
a run from reset reaches, runs, the edges a run makes, and the environments in which a command completes.
-/

namespace Sys2Proof.Machine

/-- The phases in which a wait runs (10 R31). -/
def Phase.waits : Phase → Bool
  | .off => false
  | .pwrup => true
  | .idle => false
  | .trig => true
  | .settle => true
  | .read => false

/-- What holds in every reachable state: (a) to (h) of 10 R47, the exact conditions of 10 R22 on
`no_value`, and what the sequencer keeps besides. -/
structure State.Inv (s : State) : Prop where
  /-- 10 R47 (a). -/
  cs : s.csN = false ↔ s.phase = .trig ∨ s.phase = .read
  /-- 10 R47 (b). -/
  sck : s.phase ≠ .read → s.sck = false
  /-- 10 R47 (c). -/
  bits : s.bitcnt ≤ 32#6
  /-- 10 R22: RAWFRAME is `no_value` exactly when RAW_VALID = 0; with 10 R47 (d). -/
  raw : s.rawframe.isSome = s.rawValid
  /-- 10 R47 (d), in the stronger form that holds of one state: a session, once begun, lasts until
  reset, which clears RAW_VALID. -/
  rawSession : s.rawValid = true → s.phase ≠ .off
  /-- 10 R22, R33: FAULT is `no_value` exactly when RES_VALID = 0. -/
  res : s.fault.isSome = s.resValid
  /-- 10 R35, R47 (e), (f): TEMP_VALID is 1 exactly when FAULT is `Ok`. -/
  temp : s.tempValid = true ↔ s.fault = some .ok
  /-- 10 R22: the temperature registers are `no_value` exactly when TEMP_VALID = 0. -/
  tcSome : s.tcCount.isSome = s.tempValid
  cjSome : s.cjCount.isSome = s.tempValid
  /-- 10 R47 (g), the ranges. -/
  tcRange : ∀ n, s.tcCount = some n → -8192 ≤ n.toInt ∧ n.toInt ≤ 8191
  cjRange : ∀ m, s.cjCount = some m → -2048 ≤ m.toInt ∧ m.toInt ≤ 2047
  /-- 10 R47 (g), R42: the Fahrenheit registers are functions of the counts. -/
  tcF : s.tcF20 = s.tcCount.map tcFahrenheit
  cjF : s.cjF80 = s.cjCount.map cjFahrenheit
  /-- 10 R28: SHIFT is `no_value` outside P_READ; inside, it holds a value once a bit is in. -/
  shiftSome : s.shift.isSome = true ↔ s.phase = .read ∧ s.bitcnt ≠ 0#6
  /-- SCK is high only inside a bit, and a bit is clocked only while BITCNT < 32 (40 R109). -/
  sckBit : s.sck = true → s.bitcnt < 32#6
  /-- 10 R31: TIMER measures a wait and is 0 outside one (log 6). -/
  timer : s.phase.waits = false → s.timer = 0
  /-- The clock times run only in P_READ (log 21). -/
  clock : s.phase ≠ .read → s.clkTime = 0 ∧ s.edgeTime = 0
  /-- 10 R47 (h): the codes never taken. -/
  codes : s.phase.code ≠ 6#3 ∧ s.phase.code ≠ 7#3 ∧ s.status.code ≠ 3#2 ∧
    ∀ c, s.fault = some c → c.code ≠ 6#3 ∧ c.code ≠ 7#3

/-- The states a run reaches from reset, in any configuration and any environment. -/
inductive Reachable : State → Prop where
  | reset (cfg : Config) (env : List Inputs) (draws : Nat) :
      Reachable { State.reset with cfg := cfg, env := env, draws := draws }
  | step (s t : State) : Reachable s → Sys2Proof.Machine.step s = .next t → Reachable t

/-- `n` steps of the machine. -/
def run (n : Nat) (s : State) : Host.Outcome State Fault Refusal := Sys2Proof.core.run n s

/-- The edges on the pins in `n` steps, in order (40 R112). -/
def pinTrace : Nat → State → List PinEvent
  | 0, _ => []
  | n + 1, s =>
    match step s with
    | .next t => pinEdges s t ++ pinTrace n t
    | .fault _ => []
    | .refused _ => []

/-- Inputs with which the sequencer takes the step it is ready for: no reset, and the environment
lets it proceed (70 R251). -/
abbrev Inputs.moves (i : Inputs) : Prop := i.rst = false ∧ i.proceed = true

/-- Inputs with which a wait of `bound` that has just begun ends (70 R251). -/
abbrev Inputs.endsWait (bound : Nat) (i : Inputs) : Prop := i.moves ∧ bound ≤ i.elapsed

/-- Inputs with which a command word is offered, without reset. -/
abbrev Inputs.offers (w : CmdWord) (i : Inputs) : Prop :=
  i.rst = false ∧ i.cmdValid = true ∧ i.cmdWord = w

/-- Two states that a read transaction cannot tell apart: the same configuration, phase, pins, times,
environment and SHIFT (which holds no value outside P_READ), and inside P_READ the same count of bits.
They may differ in what earlier commands left: RAWFRAME, RAW_VALID, STATUS, the result registers, the
response, and outside P_READ the last count (40 R115). -/
structure SameTransaction (s t : State) : Prop where
  cfg : s.cfg = t.cfg
  phase : s.phase = t.phase
  csN : s.csN = t.csN
  sck : s.sck = t.sck
  timer : s.timer = t.timer
  clkTime : s.clkTime = t.clkTime
  edgeTime : s.edgeTime = t.edgeTime
  env : s.env = t.env
  draws : s.draws = t.draws
  shift : s.shift = t.shift
  bits : s.phase = .read → s.bitcnt = t.bitcnt

/-- The registers a decode writes hold the same (41 R162, R163). -/
structure SameResults (s t : State) : Prop where
  resValid : s.resValid = t.resValid
  fault : s.fault = t.fault
  tempValid : s.tempValid = t.tempValid
  tcCount : s.tcCount = t.tcCount
  cjCount : s.cjCount = t.cjCount
  tcF20 : s.tcF20 = t.tcF20
  cjF80 : s.cjF80 = t.cjF80

/-- The inputs of one clock period: those of the rising edge and those of the falling edge (log 7). -/
abbrev ClockPeriod := Inputs × Inputs

/-- A clock period that is completed: no reset, no bus failure (40 R109). -/
abbrev ClockPeriod.good (p : ClockPeriod) : Prop :=
  p.1.moves ∧ p.1.busFail = false ∧ p.2.moves

/-- The inputs of clock periods one after the other, two steps each. -/
def clockInputs (ps : List ClockPeriod) : List Inputs := ps.flatMap fun p => [p.1, p.2]

/-- The inputs of the step that follows: the rising edge of the next clock period, or `e` after the last. -/
def nextStart (ps : List ClockPeriod) (e : Inputs) : Inputs :=
  match ps with
  | [] => e
  | p :: _ => p.1

/-- Each clock period, from its rising edge to the step that follows it, lasts at least `1 / F_SCK`
(40 R109, 70 R254). -/
def periodsLast (c : Config) : List ClockPeriod → Inputs → Prop
  | [], _ => True
  | p :: ps, e =>
    1000000000 ≤ (p.2.elapsed + (nextStart ps e).elapsed) * c.fSck ∧ periodsLast c ps e

/-- Clock periods and the step `e` after them keep their times: the first step comes `T_CS_LEAD` after
the select edge, and every period lasts (70 R254, R258; log 21). -/
abbrev paced (c : Config) (ps : List ClockPeriod) (e : Inputs) : Prop :=
  c.tCsLead ≤ (nextStart ps e).elapsed ∧ periodsLast c ps e

end Sys2Proof.Machine
end

