-- ==== Sys2Proof/Certificates/Slice0/Obligations.lean ====
section
/-!
DEFINITION. The statements for the provers. Each is about the machine, from the numbered rules of
spec/; "40 R109" is rule R109 of 40_bus_transactor.md. Where a statement rests on a choice of the
model, its docstring names the log entry. A statement that names the states a step leads to says, in
the record update, that every field it does not name is unchanged. Of the fields it names, `env` and
`draws` are the model's own record of the environment (log 3), `rsp` is the response port for one step
(log 12), `clkTime` and `edgeTime` are the model's own times in a read transaction (log 21), and TIMER's
form is the model's (log 6); no rule of the spec is cited for what they hold.
-/

open Sys2Proof Sys2Proof.Machine

/-! ### Encodings -/

/-- For every well-formed instruction, decoding its words gives it back (30 R71, R73, R80). That the
`arg` bits of INIT, TRIGREAD and DECODE are kept is the model's choice (log 14). -/
def Obligations.DecodeOfEncodeIsTheInstruction : Prop :=
  ∀ i : Instr, i.wellFormed = true → decode (encode i) = i

/-- Every command word and every frame stands for a well-formed instruction, and encoding it gives the
same bits back: no word is illegal (30 R77, R84). That the ignored `arg` bits of INIT, TRIGREAD and
DECODE come back too, so that no bit is dropped, is the model's choice (log 14). -/
def Obligations.EncodeOfDecodeIsTheWord : Prop :=
  ∀ e : Encoded, (decode e).wellFormed = true ∧ encode (decode e) = e

/-- Words written out from the spec's encodings decode to what they stand for (30 R73, R80, R87). -/
def Obligations.WrittenOutWordsDecode : Prop :=
  decodeCommand 0x000000000#34 = .init 0 ∧
  decodeCommand 0x100000000#34 = .trigread 0 ∧
  decodeCommand 0x200000000#34 = .decode 0 ∧
  decodeCommand 0x3064C6490#34 = .decodei 0x064C6490#32 ∧
  decodeFrame 0x00000000#32 = .frameReadFailure ∧
  decodeFrame 0x064D6491#32 = .frameOpenCircuit ⟨0, 0x193, 0, 0, 0x649, 0⟩ ∧
  decodeFrame 0x7FFEFFF8#32 = .frameOk ⟨0, 0x1FFF, 1, 1, 0x7FF, 1⟩ 0

/-- The order of the rows matters only for the all-zero frame, rows 2 to 5 are disjoint from each
other and from rows 1 and 6, and a frame with bit 16 set takes the class of its highest set fault
bit (30 R74). -/
def Obligations.FrameRowsOverlapOnlyAtZero : Prop :=
  (∀ (f : Frame) (c d : FaultCode), (frameRow c).covers f = true → (frameRow d).covers f = true →
    c = d ∨ (f = 0#32 ∧ (c = .readFailure ∧ d = .ok ∨ c = .ok ∧ d = .readFailure))) ∧
  (frameRow .readFailure).covers 0#32 = true ∧ (frameRow .ok).covers 0#32 = true ∧
  rowClass 0#32 = .readFailure ∧
  (∀ f : Frame, (frameRow (rowClass f)).covers f = true) ∧
  (∀ f : Frame, f.getLsbD 16 = true →
    rowClass f =
      if f.getLsbD 2 then .shortToVcc
      else if f.getLsbD 1 then .shortToGnd
      else if f.getLsbD 0 then .openCircuit
      else .unknown)

/-! ### The decoder's functions -/

/-- The class of a frame: the zero test first, then bit 16, then bits 2, 1, 0; and the mask and match
form is the same function (41 R143). -/
def Obligations.ClassifyTestsBitsInOrder : Prop :=
  ∀ f : Frame,
    classify f =
      (if f = 0#32 then .readFailure
       else if f.getLsbD 16 then
         if f.getLsbD 2 then .shortToVcc
         else if f.getLsbD 1 then .shortToGnd
         else if f.getLsbD 0 then .openCircuit
         else .unknown
       else .ok) ∧
    classify f = rowClass f

/-- A field holds exactly the documented bits, made zero-based, is below `2^w`, and no bit outside the
range affects it (41 R141). -/
def Obligations.ExtractIsolatesItsBits : Prop :=
  ∀ (f : Frame) (pos w : Nat), 1 ≤ w → pos + w ≤ 32 →
    (extract f pos w).toNat = f.toNat / 2 ^ pos % 2 ^ w ∧
    extract f pos w = f.extractLsb' pos w ∧
    ∀ g : Frame, (∀ i, pos ≤ i → i < pos + w → g.getLsbD i = f.getLsbD i) →
      extract g pos w = extract f pos w

/-- The closed form of the sign handling, its range, that every count of the range has exactly one
field and sign bit, and that the sign bit and the field are a two's-complement number, with the top
bit inverted when SIGN_POS = 1 (41 R147). -/
def Obligations.SignedCountClosedForm : Prop :=
  ∀ W : Nat, W = 13 ∨ W = 11 →
    (∀ (signPos s : BitVec 1) (v : BitVec W),
      (signedCount signPos v s).toInt = (v.toNat : Int) - (if s = signPos then 0 else 2 ^ W) ∧
      -2 ^ W ≤ (signedCount signPos v s).toInt ∧ (signedCount signPos v s).toInt < 2 ^ W) ∧
    (∀ (signPos : BitVec 1) (k : Int), -2 ^ W ≤ k → k < 2 ^ W →
      ∃! p : BitVec W × BitVec 1, (signedCount signPos p.1 p.2).toInt = k) ∧
    (∀ (s : BitVec 1) (v : BitVec W), (signedCount 0#1 v s).toInt = (s ++ v).toInt) ∧
    (∀ (s : BitVec 1) (v : BitVec W), (signedCount 1#1 v s).toInt = ((~~~s) ++ v).toInt)

/-- The Fahrenheit registers hold `9n + 640` over 20 and `9m + 2560` over 80 without overflow, so that
`F = 1.8 * C + 32` holds exactly (41 R150). -/
def Obligations.FahrenheitIsExact : Prop :=
  (∀ n : Count, -8192 ≤ n.toInt → n.toInt ≤ 8191 →
    (tcFahrenheit n).toInt = 9 * n.toInt + 640 ∧
    -73088 ≤ (tcFahrenheit n).toInt ∧ (tcFahrenheit n).toInt ≤ 74359 ∧
    ((tcFahrenheit n).toInt : ℚ) / 20 = 18 / 10 * ((n.toInt : ℚ) / 4) + 32) ∧
  (∀ m : Count, -2048 ≤ m.toInt → m.toInt ≤ 2047 →
    (cjFahrenheit m).toInt = 9 * m.toInt + 2560 ∧
    -15872 ≤ (cjFahrenheit m).toInt ∧ (cjFahrenheit m).toInt ≤ 20983 ∧
    ((cjFahrenheit m).toInt : ℚ) / 80 = 18 / 10 * ((m.toInt : ℚ) / 16) + 32)

/-- The two fields do not influence each other: the thermocouple count depends only on bits 31 to 18,
the cold-junction count only on bits 15 to 4; and the ranges of the Celsius values (41 R148). -/
def Obligations.TemperatureFieldsAreIndependent : Prop :=
  (∀ (signPos : BitVec 1) (f g : Frame),
    (∀ i, 18 ≤ i → i ≤ 31 → f.getLsbD i = g.getLsbD i) →
    tcCountOf signPos f = tcCountOf signPos g) ∧
  (∀ (signPos : BitVec 1) (f g : Frame),
    (∀ i, 4 ≤ i → i ≤ 15 → f.getLsbD i = g.getLsbD i) →
    cjCountOf signPos f = cjCountOf signPos g) ∧
  (∀ (signPos : BitVec 1) (f : Frame),
    -2048 ≤ ((tcCountOf signPos f).toInt : ℚ) / 4 ∧ ((tcCountOf signPos f).toInt : ℚ) / 4 ≤ 204775 / 100 ∧
    -128 ≤ ((cjCountOf signPos f).toInt : ℚ) / 16 ∧
      ((cjCountOf signPos f).toInt : ℚ) / 16 ≤ 1279375 / 10000)

/-- A nonzero frame with bit 16 clear gives temperatures, and a frame with bit 16 set gives a fault
other than ReadFailure (41 R165). -/
def Obligations.TemperaturesExactlyWithoutTheFaultFlag : Prop :=
  (∀ (signPos : BitVec 1) (f : Frame), f ≠ 0#32 → f.getLsbD 16 = false →
    decodeReading signPos f =
      .temps (signedCount signPos (f.extractLsb' 18 13) (f.extractLsb' 31 1))
        (signedCount signPos (f.extractLsb' 4 11) (f.extractLsb' 15 1))) ∧
  (∀ (signPos : BitVec 1) (f : Frame), f.getLsbD 16 = true →
    ∃ c : FaultCode, c ≠ .readFailure ∧ c ≠ .ok ∧ decodeReading signPos f = .fault c)

/-- The reserved bits 17 and 3 change nothing but through the all-zero test, and a frame with no other
bit set is `Ok` with its (all-zero) temperature fields decoded (30 R75). -/
def Obligations.ReservedBitsAreIgnored : Prop :=
  (∀ (signPos : BitVec 1) (f g : Frame), f ≠ 0#32 → g ≠ 0#32 →
    (∀ i, i < 32 → i ≠ 17 → i ≠ 3 → f.getLsbD i = g.getLsbD i) →
    decodeReading signPos f = decodeReading signPos g) ∧
  (∀ (signPos : BitVec 1) (f : Frame), f ≠ 0#32 →
    (∀ i, i < 32 → i ≠ 17 → i ≠ 3 → f.getLsbD i = false) →
    decodeReading signPos f =
      .temps (signedCount signPos (0#13) (0#1)) (signedCount signPos (0#11) (0#1)))

/-- With bit 16 clear, bits 2 to 0 are ignored except through the all-zero test; `0x00000007` is `Ok`
(30 R76). -/
def Obligations.FaultBitsAreIgnoredWithoutTheFlag : Prop :=
  (∀ (signPos : BitVec 1) (f g : Frame), f ≠ 0#32 → g ≠ 0#32 →
    f.getLsbD 16 = false → (∀ i, 3 ≤ i → i < 32 → f.getLsbD i = g.getLsbD i) →
    decodeReading signPos f = decodeReading signPos g) ∧
  classify 0x00000007#32 = .ok

/-- The other polarity reads a frame as this one reads it with both sign bits inverted
(95_test_vectors.md 2.5, 41 R147, R169). -/
def Obligations.PolarityInvertsBothSignBits : Prop :=
  ∀ f : Frame, classify f = .ok → f ^^^ 0x80008000#32 ≠ 0#32 →
    decodeReading 0#1 f = decodeReading 1#1 (f ^^^ 0x80008000#32)

/-- Decoding an encoded pair of counts gives the pair, exactly, except where the encoded frame is zero,
which happens only in the two cases named (41 R166). -/
def Obligations.DecodeOfEncodedCounts : Prop :=
  ∀ (signPos : BitVec 1) (n m : Int), -8192 ≤ n → n ≤ 8191 → -2048 ≤ m → m ≤ 2047 →
    (∀ i, i = 17 ∨ i = 16 ∨ i ≤ 3 → (encodeTemps signPos n m).getLsbD i = false) ∧
    (encodeTemps signPos n m ≠ 0#32 →
      decodeReading signPos (encodeTemps signPos n m) =
        .temps (BitVec.ofInt 16 n) (BitVec.ofInt 16 m)) ∧
    (encodeTemps signPos n m = 0#32 →
      decodeReading signPos (encodeTemps signPos n m) = .fault .readFailure) ∧
    (encodeTemps signPos n m = 0#32 ↔
      (signPos = 0#1 ∧ n = 0 ∧ m = 0) ∨ (signPos = 1#1 ∧ n = -8192 ∧ m = -2048))

/-! ### The decoder's commands and frames -/

/-- `DECODEI` accepted completes in one step with the result of its frame: the seven result registers,
the response, and nothing else (41 R161, R162, R163). -/
def Obligations.DecodeiWritesTheResultOfItsFrame : Prop :=
  ∀ (f : Frame) (s : State), s.phase = .off ∨ s.phase = .idle →
    (∀ c, decodeReading s.cfg.signPos f = .fault c →
      exec (.decodei f) s = .next
        { s with
          fault := some c, resValid := true, tempValid := false
          tcCount := none, cjCount := none, tcF20 := none, cjF80 := none
          rsp := some ⟨.ok, none⟩, env := s.env.tail, draws := s.draws + 1 }) ∧
    (∀ n m, decodeReading s.cfg.signPos f = .temps n m →
      exec (.decodei f) s = .next
        { s with
          fault := some .ok, resValid := true, tempValid := true
          tcCount := some n, cjCount := some m
          tcF20 := some (9#18 * n.signExtend 18 + 640#18), cjF80 := some (9#16 * m + 2560#16)
          rsp := some ⟨.ok, none⟩, env := s.env.tail, draws := s.draws + 1 })

/-- `DECODE` accepted completes in one step with the result of RAWFRAME, and changes nothing but the
result registers (41 R160). -/
def Obligations.DecodeWritesTheResultOfRawframe : Prop :=
  ∀ (arg : BitVec 32) (f : Frame) (s : State), s.phase = .off ∨ s.phase = .idle →
    s.rawValid = true → s.rawframe = some f →
    (∀ c, decodeReading s.cfg.signPos f = .fault c →
      exec (.decode arg) s = .next
        { s with
          fault := some c, resValid := true, tempValid := false
          tcCount := none, cjCount := none, tcF20 := none, cjF80 := none
          rsp := some ⟨.ok, none⟩, env := s.env.tail, draws := s.draws + 1 }) ∧
    (∀ n m, decodeReading s.cfg.signPos f = .temps n m →
      exec (.decode arg) s = .next
        { s with
          fault := some .ok, resValid := true, tempValid := true
          tcCount := some n, cjCount := some m
          tcF20 := some (9#18 * n.signExtend 18 + 640#18), cjF80 := some (9#16 * m + 2560#16)
          rsp := some ⟨.ok, none⟩, env := s.env.tail, draws := s.draws + 1 })

/-- A frame of each of the five fault classes completes with its fault code and no temperatures,
whatever its other fields hold (41 R163). -/
def Obligations.FaultFramesReportTheirClass : Prop :=
  ∀ (t : FrameFields) (scg oc : BitVec 1) (s : State),
    let done (c : FaultCode) : State :=
      { s with
        fault := some c, resValid := true, tempValid := false
        tcCount := none, cjCount := none, tcF20 := none, cjF80 := none
        rsp := some ⟨.ok, none⟩, env := s.env.tail, draws := s.draws + 1 }
    exec .frameReadFailure s = .next (done .readFailure) ∧
    exec (.frameShortToVcc t scg oc) s = .next (done .shortToVcc) ∧
    exec (.frameShortToGnd t oc) s = .next (done .shortToGnd) ∧
    exec (.frameOpenCircuit t) s = .next (done .openCircuit) ∧
    exec (.frameUnknown t) s = .next (done .unknown)

/-- A frame of class `Ok` completes with the two counts, as numbers, and the Fahrenheit numerators
that go with them (41 R147, R150, R162). -/
def Obligations.OkFrameReportsTwoTemperatures : Prop :=
  ∀ (t : FrameFields) (low : BitVec 3) (s : State),
    ∃ (n m : Count) (x : BitVec 18) (y : BitVec 16),
      n.toInt = (t.tcV.toNat : Int) - (if t.tcS = s.cfg.signPos then 0 else 8192) ∧
      m.toInt = (t.cjV.toNat : Int) - (if t.cjS = s.cfg.signPos then 0 else 2048) ∧
      x.toInt = 9 * n.toInt + 640 ∧
      y.toInt = 9 * m.toInt + 2560 ∧
      exec (.frameOk t low) s = .next
        { s with
          fault := some .ok, resValid := true, tempValid := true
          tcCount := some n, cjCount := some m, tcF20 := some x, cjF80 := some y
          rsp := some ⟨.ok, none⟩, env := s.env.tail, draws := s.draws + 1 }

/-- An accepted `DECODEI` or `DECODE` does exactly what the frame instruction that its frame decodes to
does: the match-and-mask decoder and the decoder's pseudocode agree in effect (30 R73, 41 R151). -/
def Obligations.CommandRunsTheInstructionOfItsFrame : Prop :=
  ∀ (f : Frame) (s : State), s.phase = .off ∨ s.phase = .idle →
    exec (.decodei f) s = exec (decodeFrame f) s ∧
    ∀ arg : BitVec 32, s.rawValid = true → s.rawframe = some f →
      exec (.decode arg) s = exec (decodeFrame f) s

/-- The result of a decode depends on the frame and SIGN_POS and on nothing else of the state: two
decodes of one frame, in any two states, leave the same result registers (41 R164, 20 R60). -/
def Obligations.DecodeDependsOnlyOnItsFrame : Prop :=
  ∀ (f : Frame) (s₁ s₂ t₁ t₂ : State) (arg : BitVec 32), s₁.cfg.signPos = s₂.cfg.signPos →
    s₁.phase = .off ∨ s₁.phase = .idle → s₂.phase = .off ∨ s₂.phase = .idle →
    s₂.rawValid = true → s₂.rawframe = some f →
    exec (.decodei f) s₁ = .next t₁ → exec (.decode arg) s₂ = .next t₂ → SameResults t₁ t₂

/-- Frame: `DECODE`, `DECODEI` and the six frame classes leave PHASE, the pins, SHIFT, BITCNT, TIMER,
RAWFRAME, RAW_VALID, STATUS and the configuration as they were, accepted or not (41 R160, R161). -/
def Obligations.DecodersLeaveTheTransactorAlone : Prop :=
  ∀ (i : Instr) (s t : State), (∀ arg, i ≠ .init arg) → (∀ arg, i ≠ .trigread arg) →
    exec i s = .next t →
    t.phase = s.phase ∧ t.csN = s.csN ∧ t.sck = s.sck ∧ t.shift = s.shift ∧ t.bitcnt = s.bitcnt ∧
    t.timer = s.timer ∧ t.clkTime = s.clkTime ∧ t.edgeTime = s.edgeTime ∧ t.rawframe = s.rawframe ∧ t.rawValid = s.rawValid ∧ t.status = s.status ∧
    t.cfg = s.cfg ∧ t.env = s.env.tail ∧ t.draws = s.draws + 1

/-! ### The transactor's commands and steps -/

/-- Step IN1: `INIT` accepted with the bus available (40 R102). -/
def Obligations.InitClaimsTheBus : Prop :=
  ∀ (arg : BitVec 32) (s : State), s.phase = .off → s.inputs.busAvail = true →
    exec (.init arg) s = .next
      { s with
        csN := true, sck := false, phase := .pwrup, timer := 0
        rsp := none, env := s.env.tail, draws := s.draws + 1 }

/-- Step IN-E: `INIT` accepted with the bus not available writes STATUS, responds, and changes nothing
else; INIT can be offered again (40 R104). -/
def Obligations.InitErrorWritesOnlyStatus : Prop :=
  ∀ (arg : BitVec 32) (s : State), s.phase = .off → s.inputs.busAvail = false →
    exec (.init arg) s = .next
      { s with
        status := .initError
        rsp := some ⟨.initError, none⟩, env := s.env.tail, draws := s.draws + 1 }

/-- Step TR1: `TRIGREAD` accepted begins the trigger pulse (40 R106). -/
def Obligations.TrigreadBeginsTheTriggerPulse : Prop :=
  ∀ (arg : BitVec 32) (s : State), s.phase = .idle →
    exec (.trigread arg) s = .next
      { s with
        csN := false, phase := .trig, timer := 0
        rsp := none, env := s.env.tail, draws := s.draws + 1 }

/-- `cmd_ready` is the table of 30 R81, and a command offered while it is 0 changes nothing. That this is
a next state, and not an end of the run, is the model's choice (log 9). -/
def Obligations.CommandNotReadyChangesNothing : Prop :=
  ∀ (s : State) (arg : BitVec 32),
    (s.cmdReady .init = true ↔ s.phase = .off) ∧
    (s.cmdReady .trigread = true ↔ s.phase = .idle) ∧
    (s.cmdReady .decode = true ↔ (s.phase = .off ∨ s.phase = .idle) ∧ s.rawValid = true) ∧
    (s.cmdReady .decodei = true ↔ s.phase = .off ∨ s.phase = .idle) ∧
    let same : State := { s with rsp := none, env := s.env.tail, draws := s.draws + 1 }
    (s.cmdReady .init = false → exec (.init arg) s = .next same) ∧
    (s.cmdReady .trigread = false → exec (.trigread arg) s = .next same) ∧
    (s.cmdReady .decode = false → exec (.decode arg) s = .next same) ∧
    (s.cmdReady .decodei = false → exec (.decodei arg) s = .next same)

/-- Frame: `INIT` and `TRIGREAD`, accepted or not, leave SHIFT, BITCNT, RAWFRAME, RAW_VALID, the result
registers and the configuration as they were; TRIGREAD also SCK and STATUS (40 R102, R104, R106). -/
def Obligations.BusCommandsLeaveTheResultsAlone : Prop :=
  ∀ (arg : BitVec 32) (s t : State),
    (exec (.init arg) s = .next t ∨ exec (.trigread arg) s = .next t →
      SameResults t s ∧ t.shift = s.shift ∧ t.bitcnt = s.bitcnt ∧ t.rawframe = s.rawframe ∧
      t.rawValid = s.rawValid ∧ t.cfg = s.cfg ∧ t.clkTime = s.clkTime ∧ t.edgeTime = s.edgeTime ∧
      t.env = s.env.tail ∧ t.draws = s.draws + 1) ∧
    (exec (.trigread arg) s = .next t → t.sck = s.sck ∧ t.status = s.status)

/-- Step IN2: the power-up delay is over (40 R103). That TIMER is cleared is the model's choice (log 6). -/
def Obligations.PowerUpDelayEndsInIdle : Prop :=
  ∀ s : State, s.phase = .pwrup → s.inputs.moves → s.cfg.tPowerup ≤ s.timer + s.inputs.elapsed →
    step s = .next
      { s with
        phase := .idle, status := .ok, timer := 0
        rsp := some ⟨.ok, none⟩, env := s.env.tail, draws := s.draws + 1 }

/-- Step TR2: the trigger pulse ends (40 R107). -/
def Obligations.TriggerPulseEndsInSettle : Prop :=
  ∀ s : State, s.phase = .trig → s.inputs.moves → s.cfg.tTrig ≤ s.timer + s.inputs.elapsed →
    step s = .next
      { s with
        csN := true, phase := .settle, timer := 0
        rsp := none, env := s.env.tail, draws := s.draws + 1 }

/-- Step TR3: the settle time is over and the read transaction begins (40 R108). -/
def Obligations.SettleEndsInRead : Prop :=
  ∀ s : State, s.phase = .settle → s.inputs.moves → s.inputs.busFail = false →
    s.cfg.tSettle ≤ s.timer + s.inputs.elapsed →
    step s = .next
      { s with
        csN := false, bitcnt := 0#6, phase := .read, timer := 0, clkTime := 0, edgeTime := 0
        rsp := none, env := s.env.tail, draws := s.draws + 1 }

/-- A wait is never cut short, and the sequencer may be held for ever (70 R251, R256): while less than
the bound has passed, or the environment does not let the sequencer proceed, only TIMER moves; in P_READ,
while it does not, only the model's clock times. The input that holds it is the model's (log 5), the form
of the times too (log 6, log 21). -/
def Obligations.WaitsAreNeverCutShort : Prop :=
  ∀ s : State, s.inputs.rst = false →
    (∀ bound, s.phase = .pwrup ∧ bound = s.cfg.tPowerup ∨ s.phase = .trig ∧ bound = s.cfg.tTrig ∨
        s.phase = .settle ∧ bound = s.cfg.tSettle →
      s.timer + s.inputs.elapsed < bound ∨ s.inputs.proceed = false →
      step s = .next
        { s with
          timer := s.timer + s.inputs.elapsed
          rsp := none, env := s.env.tail, draws := s.draws + 1 }) ∧
    (s.phase = .read → s.inputs.proceed = false →
      step s = .next
        { s with
          clkTime := s.clkTime + s.inputs.elapsed, edgeTime := s.edgeTime + s.inputs.elapsed
          rsp := none, env := s.env.tail, draws := s.draws + 1 })

/-- Step TR4: one clock period, once the bit is due. SCK rises; then it falls, and the level of SO enters
SHIFT at bit 0 and BITCNT counts it (40 R109). What enters above it at the first bit is a free value (log
8), and so is the bit itself when the clock is faster than 5 MHz (70 R254, log 21). -/
def Obligations.OneBitIsClockedIn : Prop :=
  ∀ (s : State) (i j : Inputs) (rest : List Inputs), s.phase = .read → s.bitcnt < 32#6 →
    s.sck = false → s.env = i :: j :: rest → i.moves → i.busFail = false → j.moves →
    (s.bitcnt = 0#6 → s.cfg.tCsLead ≤ s.edgeTime + i.elapsed) →
    (s.bitcnt ≠ 0#6 → 1000000000 ≤ (s.clkTime + i.elapsed) * s.cfg.fSck) →
    step s = .next
      { s with
        sck := true, clkTime := 0, edgeTime := 0
        rsp := none, env := j :: rest, draws := s.draws + 1 } ∧
    ∃ (old : BitVec 32) (b : Level), (∀ v, s.shift = some v → old = v) ∧
      (s.cfg.fSck ≤ 5000000 → b = j.so) ∧
      run 2 s = .next
        { s with
          sck := false
          shift := some ((old <<< 1) ||| (BitVec.ofBool b).setWidth 32)
          bitcnt := s.bitcnt + 1#6
          clkTime := j.elapsed, edgeTime := 0
          rsp := none, env := rest, draws := s.draws + 2 }

/-- Step TR5: after 32 bits, once the last clock period and `T_CS_LAG` are over, the frame is delivered
whole and no failure can be raised any more (40 R110, 60 R209, 70 R258). -/
def Obligations.CompleteFrameIsDelivered : Prop :=
  ∀ s : State, s.phase = .read → s.bitcnt = 32#6 → s.inputs.moves →
    1000000000 ≤ (s.clkTime + s.inputs.elapsed) * s.cfg.fSck →
    s.cfg.tCsLag ≤ s.edgeTime + s.inputs.elapsed →
    step s = .next
      { s with
        csN := true, rawframe := s.shift, rawValid := true, shift := none
        status := .ok, phase := .idle, clkTime := 0, edgeTime := 0
        rsp := some ⟨.ok, s.shift⟩, env := s.env.tail, draws := s.draws + 1 }

/-- Step TR-E: a bus failure in place of TR3 or in place of a bit releases the bus, keeps RAWFRAME,
RAW_VALID and BITCNT, and responds with the error (40 R111, 60 R204). -/
def Obligations.BusFailureReleasesTheBus : Prop :=
  ∀ s : State, s.inputs.moves → s.inputs.busFail = true →
    (s.phase = .settle ∧ s.cfg.tSettle ≤ s.timer + s.inputs.elapsed) ∨
      (s.phase = .read ∧ s.bitcnt < 32#6 ∧ s.sck = false ∧
        (s.bitcnt = 0#6 → s.cfg.tCsLead ≤ s.edgeTime + s.inputs.elapsed) ∧
        (s.bitcnt ≠ 0#6 → 1000000000 ≤ (s.clkTime + s.inputs.elapsed) * s.cfg.fSck)) →
    step s = .next
      { s with
        csN := true, sck := false, shift := none, timer := 0, clkTime := 0, edgeTime := 0
        status := .busError, phase := .idle
        rsp := some ⟨.busError, none⟩, env := s.env.tail, draws := s.draws + 1 }

/-! ### Whole commands -/

/-- `INIT` as a whole: accepted with the bus available, and after the power-up wait it ends in P_IDLE
with STATUS = ST_OK and the output lines idle (40 R101). -/
def Obligations.WholeInitEndsInIdle : Prop :=
  ∀ (s : State) (a b : Inputs) (rest : List Inputs), s.phase = .off → s.env = a :: b :: rest →
    a.offers 0x000000000#34 → a.busAvail = true → b.endsWait s.cfg.tPowerup →
    run 2 s = .next
      { s with
        phase := .idle, csN := true, sck := false, status := .ok, timer := 0
        rsp := some ⟨.ok, none⟩, env := rest, draws := s.draws + 2 }

/-- `TRIGREAD` as a whole: from P_IDLE, with every wait ended, no bus failure and a clock within its bound,
68 steps end in P_IDLE with RAWFRAME the frame whose bit `31 - k` is the bit sampled in clock period `k`,
whatever SHIFT held before (40 R105, R113). Each clock period is two steps (log 7); how long it lasts, and
the lead and lag, are as log 21 says. -/
def Obligations.WholeTrigreadDeliversTheSampledFrame : Prop :=
  ∀ (s : State) (a b c e : Inputs) (periods : List ClockPeriod) (rest : List Inputs) (d : Frame),
    s.phase = .idle → s.sck = false →
    s.env = a :: b :: c :: (clockInputs periods ++ e :: rest) →
    a.offers 0x100000000#34 → b.endsWait s.cfg.tTrig → c.endsWait s.cfg.tSettle → c.busFail = false →
    periods.length = 32 → (∀ p ∈ periods, p.good) → e.moves →
    paced s.cfg periods e → s.cfg.tCsLag ≤ e.elapsed →
    s.cfg.fSck ≤ 5000000 → (∀ k p, periods[k]? = some p → d.getLsbD (31 - k) = p.2.so) →
    run 68 s = .next
      { s with
        phase := .idle, csN := true, sck := false, shift := none, bitcnt := 32#6, timer := 0
        clkTime := 0, edgeTime := 0
        rawframe := some d, rawValid := true, status := .ok
        rsp := some ⟨.ok, some d⟩, env := rest, draws := s.draws + 68 }

/-- The edges of a completed `TRIGREAD`, in order: two active pulses of the select line, and in the
second 32 clock periods (40 R112). The 68 steps are the model's, two for each clock period (log 7); how
long a clock period lasts is as log 21 says; no step here moves both pins, so the order of log 22 plays no
part. -/
def Obligations.PinEventsOfACompletedRead : Prop :=
  ∀ (s : State) (a b c e : Inputs) (periods : List ClockPeriod) (rest : List Inputs),
    s.phase = .idle → s.sck = false → s.csN = true →
    s.env = a :: b :: c :: (clockInputs periods ++ e :: rest) →
    a.offers 0x100000000#34 → b.endsWait s.cfg.tTrig → c.endsWait s.cfg.tSettle → c.busFail = false →
    periods.length = 32 → (∀ p ∈ periods, p.good) → e.moves →
    paced s.cfg periods e → s.cfg.tCsLag ≤ e.elapsed →
    pinTrace 68 s =
      [.csFall, .csRise, .csFall] ++ (List.replicate 32 [.sckRise, .sckFall]).flatten ++ [.csRise]

/-- `TRIGREAD` that fails: with the failure drawn in place of TR3, or in place of the bit after `k` bits,
it ends in P_IDLE with STATUS = ST_BUS_ERROR, the pins idle, BITCNT the number of bits sampled, and
RAWFRAME, RAW_VALID and the result registers as they were (40 R105, R111, 60 R204). The number of steps,
two for each clock period, is the model's (log 7); how long a clock period lasts is as log 21 says. -/
def Obligations.FailedTrigreadKeepsTheOldFrame : Prop :=
  ∀ (s : State) (a b c : Inputs), s.phase = .idle → s.sck = false →
    a.offers 0x100000000#34 → b.endsWait s.cfg.tTrig → c.endsWait s.cfg.tSettle →
    (∀ rest, s.env = a :: b :: c :: rest → c.busFail = true →
      run 3 s = .next
        { s with
          phase := .idle, csN := true, sck := false, shift := none, timer := 0, status := .busError
          clkTime := 0, edgeTime := 0
          rsp := some ⟨.busError, none⟩, env := rest, draws := s.draws + 3 }) ∧
    (∀ (periods : List ClockPeriod) (e : Inputs) (rest : List Inputs),
      s.env = a :: b :: c :: (clockInputs periods ++ e :: rest) → c.busFail = false →
      periods.length < 32 → (∀ p ∈ periods, p.good) → e.moves → e.busFail = true →
      paced s.cfg periods e →
      run (4 + 2 * periods.length) s = .next
        { s with
          phase := .idle, csN := true, sck := false, shift := none
          bitcnt := BitVec.ofNat 6 periods.length, timer := 0, status := .busError
          clkTime := 0, edgeTime := 0
          rsp := some ⟨.busError, none⟩, env := rest, draws := s.draws + (4 + 2 * periods.length) })

/-- `SAMPLE`: after a TRIGREAD that ended `ST_OK` the host offers the second word, and the result
registers hold what the decoder gives for the frame read: a fault code and no temperatures, or two
temperatures; after one that ended `ST_BUS_ERROR` there is no second word (42 R180). The 69 steps, two
for each clock period, are the model's (log 7); how long a clock period lasts is as log 21 says. -/
def Obligations.SampleDecodesTheFrameRead : Prop :=
  (∀ (s : State) (a b c e g : Inputs) (periods : List ClockPeriod) (rest : List Inputs) (d : Frame)
      (w : CmdWord),
    s.phase = .idle → s.sck = false →
    s.env = a :: b :: c :: (clockInputs periods ++ e :: g :: rest) →
    a.offers sampleFirst → b.endsWait s.cfg.tTrig → c.endsWait s.cfg.tSettle → c.busFail = false →
    periods.length = 32 → (∀ p ∈ periods, p.good) → e.moves →
    paced s.cfg periods e → s.cfg.tCsLag ≤ e.elapsed →
    s.cfg.fSck ≤ 5000000 → (∀ k p, periods[k]? = some p → d.getLsbD (31 - k) = p.2.so) →
    sampleSecond .ok = some w → g.offers w →
    ∃ t, run 69 s = .next t ∧ t.phase = .idle ∧ t.status = .ok ∧ t.rawframe = some d ∧
      t.rawValid = true ∧ t.resValid = true ∧ t.rsp = some ⟨.ok, none⟩ ∧ t.env = rest ∧
      (∀ f, decodeReading s.cfg.signPos d = .fault f →
        t.fault = some f ∧ t.tempValid = false ∧
        t.tcCount = none ∧ t.cjCount = none ∧ t.tcF20 = none ∧ t.cjF80 = none) ∧
      (∀ n m, decodeReading s.cfg.signPos d = .temps n m →
        t.fault = some .ok ∧ t.tempValid = true ∧ t.tcCount = some n ∧ t.cjCount = some m ∧
        t.tcF20 = some (tcFahrenheit n) ∧ t.cjF80 = some (cjFahrenheit m))) ∧
  sampleSecond .busError = none

/-! ### The step -/

/-- A command offered between commands is run: the step is exec of the decoded command (30 R80, 40 R100).
The step adds nothing around exec (log 15). -/
def Obligations.StepRunsTheOfferedCommand : Prop :=
  ∀ s : State, s.inputs.rst = false → s.phase = .off ∨ s.phase = .idle → s.inputs.cmdValid = true →
    step s = exec (decodeCommand s.inputs.cmdWord) s

/-- A table word placed with withFetchWord is what the next step runs, from every state: a command
itself, a frame by the DECODEI that carries it. How a word is placed is the model's (log 11, log 13). -/
def Obligations.PlacedWordIsRunNext : Prop :=
  ∀ (s : State) (nbits w : Nat) (i : Instr), decodeTableWord nbits w = some i →
    step (s.withFetchWord nbits w) = exec i (s.withFetchWord nbits w)

/-- Nothing starts by itself: between commands, with none offered, no register changes (42 R183). -/
def Obligations.NoTransactionStartsByItself : Prop :=
  ∀ s : State, s.inputs.rst = false → s.phase = .off ∨ s.phase = .idle → s.inputs.cmdValid = false →
    step s = .next { s with rsp := none, env := s.env.tail, draws := s.draws + 1 }

/-- While a command is in progress no command is ready, and the step is the same whatever is offered
(20 R62, 30 R81, 70 R257). -/
def Obligations.BusyBlockIgnoresTheCommandPort : Prop :=
  ∀ (s : State) (i j : Inputs) (rest : List Inputs),
    s.phase = .pwrup ∨ s.phase = .trig ∨ s.phase = .settle ∨ s.phase = .read →
    j = { i with cmdValid := j.cmdValid, cmdWord := j.cmdWord } →
    (∀ op, s.cmdReady op = false) ∧
    step { s with env := i :: rest } = step { s with env := j :: rest }

/-- Reset overrides everything: whatever the block was doing, every register takes its reset value,
the command in progress is abandoned with no response, the select line is inactive, the clock idle, and
the block accepts INIT or DECODEI and nothing else; the state after power-on is the same (70 R240, R241). -/
def Obligations.ResetOverridesEverything : Prop :=
  let atReset (t : State) : Prop :=
    t.phase = .off ∧ t.csN = true ∧ t.sck = false ∧ t.shift = none ∧ t.bitcnt = 0#6 ∧ t.timer = 0 ∧
    t.rawframe = none ∧ t.rawValid = false ∧ t.status = .ok ∧ t.resValid = false ∧ t.fault = none ∧
    t.tempValid = false ∧ t.tcCount = none ∧ t.cjCount = none ∧ t.tcF20 = none ∧ t.cjF80 = none ∧
    ∀ op, t.cmdReady op = true ↔ op = .init ∨ op = .decodei
  atReset State.reset ∧
  ∀ s : State, s.inputs.rst = true → ∃ t, step s = .next t ∧ atReset t ∧ t.rsp = none

/-- The block never stops: every step and every instruction, in every state, answers a next state
(60 R202, R224). That the errors and refusals of the spec are next states is the model's choice
(log 9, log 10). -/
def Obligations.NothingStopsTheBlock : Prop :=
  (∀ s : State, ∃ t, step s = .next t) ∧ ∀ (i : Instr) (s : State), ∃ t, exec i s = .next t

/-! ### Invariants and rules of the whole machine -/

/-- The invariant holds of the reset state (10 R47). -/
def Obligations.InvariantHoldsAtReset : Prop := State.reset.Inv

/-- Every step keeps the invariant, from every state that meets it (10 R47). -/
def Obligations.StepKeepsTheInvariant : Prop :=
  ∀ s t : State, s.Inv → step s = .next t → t.Inv

/-- The invariant holds in every state a run from reset reaches, in any configuration and environment
(10 R47). -/
def Obligations.ReachableStatesMeetTheInvariant : Prop :=
  ∀ s : State, Reachable s → s.Inv

/-- A session, once begun, lasts until reset (10 R25, 90 C7). -/
def Obligations.SessionLastsUntilReset : Prop :=
  ∀ s t : State, s.inputs.rst = false → s.session = true → step s = .next t → t.session = true

/-- RAWFRAME is written in one step, whole, and only by a read that has sampled all 32 bits; without a
reset RAW_VALID never falls (10 R30, 20 R58). -/
def Obligations.RawframeIsWrittenOnlyByACompleteRead : Prop :=
  ∀ s t : State, s.inputs.rst = false → step s = .next t →
    (t.rawframe = s.rawframe ∧ t.rawValid = s.rawValid) ∨
    (s.phase = .read ∧ s.bitcnt = 32#6 ∧ t.rawframe = s.shift ∧ t.rawValid = true ∧
      t.status = .ok ∧ t.phase = .idle)

/-- STATUS is written only where INIT or TRIGREAD completes, and the response of that step carries it
(10 R32, 30 R83). -/
def Obligations.StatusIsWrittenOnlyAtCompletions : Prop :=
  ∀ s t : State, s.inputs.rst = false → step s = .next t → t.status ≠ s.status →
    (∃ f, t.rsp = some ⟨t.status, f⟩) ∧
    ((t.status = .initError ∧ s.phase = .off ∧ t.phase = .off ∧ s.inputs.busAvail = false ∧
        ∃ arg, s.offered = some (.init arg)) ∨
     (t.status = .busError ∧ (s.phase = .settle ∨ s.phase = .read) ∧ t.phase = .idle ∧
        s.inputs.busFail = true) ∨
     (t.status = .ok ∧ (s.phase = .pwrup ∨ s.phase = .read) ∧ t.phase = .idle))

/-- A command in progress responds in the step in which it completes and in no other (30 R83). -/
def Obligations.ResponseExactlyAtCompletion : Prop :=
  ∀ s t : State, s.inputs.rst = false →
    s.phase = .pwrup ∨ s.phase = .trig ∨ s.phase = .settle ∨ s.phase = .read →
    step s = .next t → (t.rsp.isSome = true ↔ t.phase = .idle)

/-- The result registers change only in a step that accepts DECODE or DECODEI (20 R60, 10 R20). -/
def Obligations.ResultsAreWrittenOnlyByDecodes : Prop :=
  ∀ s t : State, s.inputs.rst = false → step s = .next t →
    SameResults t s ∨
    ((s.phase = .off ∨ s.phase = .idle) ∧
      ((∃ f, s.offered = some (.decodei f)) ∨
        (s.rawValid = true ∧ ∃ arg, s.offered = some (.decode arg))))

/-- The clock moves only inside a read transaction, and the select line is at its active level exactly
in P_TRIG and P_READ (10 R26, R27). -/
def Obligations.PinsMoveOnlyWhereTheirPhaseSays : Prop :=
  ∀ s t : State, s.Inv → s.inputs.rst = false → step s = .next t →
    (t.sck ≠ s.sck → s.phase = .read ∧ t.phase = .read ∧ s.bitcnt < 32#6) ∧
    (t.csN = false ↔ t.phase = .trig ∨ t.phase = .read) ∧
    (s.csN = true → t.csN = false →
      (s.phase = .idle ∧ t.phase = .trig) ∨ (s.phase = .settle ∧ t.phase = .read)) ∧
    (s.csN = false → t.csN = true →
      (s.phase = .trig ∧ t.phase = .settle) ∨ (s.phase = .read ∧ t.phase = .idle))

/-- No step writes the configuration; a parameter is no state (00 R8, 10 R46). -/
def Obligations.ConfigurationNeverChanges : Prop :=
  ∀ s t : State, step s = .next t → t.cfg = s.cfg

/-- A read transaction depends on nothing that earlier commands left: two states that it cannot tell
apart lead, step by step, to two states that it cannot tell apart, whatever RAWFRAME, RAW_VALID, STATUS,
the response and the results hold in them; where the transaction ends they agree on STATUS and the
response, and where it ends with a frame, on RAWFRAME and RAW_VALID too (40 R115). -/
def Obligations.ReadsForgetEarlierCommands : Prop :=
  ∀ s₁ s₂ t₁ t₂ : State, SameTransaction s₁ s₂ → step s₁ = .next t₁ → step s₂ = .next t₂ →
    SameTransaction t₁ t₂ ∧
    (s₁.phase = .settle ∨ s₁.phase = .read → t₁.phase = .idle →
      t₁.status = t₂.status ∧ t₁.rsp = t₂.rsp ∧
      (s₁.phase = .read → s₁.bitcnt = 32#6 →
        t₁.rawframe = t₂.rawframe ∧ t₁.rawValid = true ∧ t₂.rawValid = true))

/-- The TemperatureReading is defined exactly when RES_VALID = 1 and has temperatures exactly when
TEMP_VALID = 1: the counts over 4 and 16, the Fahrenheit registers over 20 and 80. Those registers are
functions of the counts, and `F = 1.8 * C + 32` holds exactly of both pairs (10 R42). -/
def Obligations.ReadingMeetsTheFahrenheitLaw : Prop :=
  ∀ s : State, s.Inv →
    (s.reading.isSome = true ↔ s.resValid = true) ∧
    ∀ r, s.reading = some r →
      s.fault = some r.fault ∧
      (s.tempValid = false → r.thermocoupleC = none ∧ r.thermocoupleF = none ∧
        r.coldJunctionC = none ∧ r.coldJunctionF = none) ∧
      (s.tempValid = true → ∃ (n m : Count) (x : BitVec 18) (y : BitVec 16),
        s.tcCount = some n ∧ s.cjCount = some m ∧ s.tcF20 = some x ∧ s.cjF80 = some y ∧
        r.thermocoupleC = some ((n.toInt : ℚ) / 4) ∧ r.coldJunctionC = some ((m.toInt : ℚ) / 16) ∧
        r.thermocoupleF = some ((x.toInt : ℚ) / 20) ∧ r.coldJunctionF = some ((y.toInt : ℚ) / 80) ∧
        x.toInt = 9 * n.toInt + 640 ∧ y.toInt = 9 * m.toInt + 2560 ∧
        (x.toInt : ℚ) / 20 = 18 / 10 * ((n.toInt : ℚ) / 4) + 32 ∧
        (y.toInt : ℚ) / 80 = 18 / 10 * ((m.toInt : ℚ) / 16) + 32)

/-- In P_READ no edge comes early: while less than `T_CS_LEAD` has passed since the select edge before the
first bit, less than a clock period since the rising edge before every other, or less than a clock period
or `T_CS_LAG` before the release, no pin moves, no bit is sampled and only time passes (40 R109, 70 R254,
R258). That the parameters are lower bounds of these times, and the two times, are the model's (log 21). -/
def Obligations.ClockEdgesKeepTheirSpacing : Prop :=
  ∀ s : State, s.inputs.rst = false → s.phase = .read →
    (s.bitcnt = 0#6 ∧ s.sck = false ∧ s.edgeTime + s.inputs.elapsed < s.cfg.tCsLead) ∨
      (s.bitcnt ≠ 0#6 ∧ s.bitcnt < 32#6 ∧ s.sck = false ∧
        (s.clkTime + s.inputs.elapsed) * s.cfg.fSck < 1000000000) ∨
      (s.bitcnt = 32#6 ∧
        ((s.clkTime + s.inputs.elapsed) * s.cfg.fSck < 1000000000 ∨
          s.edgeTime + s.inputs.elapsed < s.cfg.tCsLag)) →
    step s = .next
      { s with
        clkTime := s.clkTime + s.inputs.elapsed, edgeTime := s.edgeTime + s.inputs.elapsed
        rsp := none, env := s.env.tail, draws := s.draws + 1 }

/-- The codes of PHASE, STATUS and FAULT are those of the tables, no two names share one, and the output
ports show the pins, the flags and registers of the result, FAULT so coded, and the response with its
status so coded (10 R24, R32, R34, R41). -/
def Obligations.OutputPortsShowTheCodes : Prop :=
  ([Phase.off, .pwrup, .idle, .trig, .settle, .read].map Phase.code =
      [0#3, 1#3, 2#3, 3#3, 4#3, 5#3] ∧
    [Status.ok, .initError, .busError].map Status.code = [0#2, 1#2, 2#2] ∧
    [FaultCode.ok, .shortToVcc, .shortToGnd, .openCircuit, .unknown, .readFailure].map FaultCode.code =
      [0#3, 1#3, 2#3, 3#3, 4#3, 5#3]) ∧
  ((∀ p q : Phase, p.code = q.code → p = q) ∧ (∀ p q : Status, p.code = q.code → p = q) ∧
    (∀ p q : FaultCode, p.code = q.code → p = q)) ∧
  ∀ s : State,
    s.outputs.csN = s.csN ∧ s.outputs.sck = s.sck ∧ s.outputs.rawValid = s.rawValid ∧
    s.outputs.resValid = s.resValid ∧ s.outputs.tempValid = s.tempValid ∧
    s.outputs.tcCount = s.tcCount ∧ s.outputs.cjCount = s.cjCount ∧
    s.outputs.tcF20 = s.tcF20 ∧ s.outputs.cjF80 = s.cjF80 ∧
    (∀ c, s.outputs.fault = some c ↔ ∃ f, s.fault = some f ∧ c = f.code) ∧
    (s.outputs.rspValid = true ↔ ∃ r, s.rsp = some r) ∧
    (∀ c, s.outputs.rspStatus = some c ↔ ∃ r, s.rsp = some r ∧ c = r.status.code) ∧
    (∀ f, s.outputs.rspFrame = some f ↔ ∃ r, s.rsp = some r ∧ r.frame = some f)

/-- The response ports copy the registers: `rsp_valid` is 1 after a step only if a command completed in it;
where INIT or TRIGREAD completed, `rsp_status` is the code of STATUS, and `rsp_frame` is RAWFRAME where
that was a TRIGREAD that ended `ST_OK` and nothing otherwise; where DECODE or DECODEI completed,
`rsp_status` is the code of `ST_OK`, whatever STATUS is (30 R83, 10 R41). That `rsp_frame` holds nothing
in a response to INIT, DECODE, DECODEI or a failed TRIGREAD, and that the response holds for one step, is
the model's reading (log 12, DEDUCED). -/
def Obligations.ResponsePortsCopyTheRegisters : Prop :=
  ∀ s t : State, s.inputs.rst = false → step s = .next t → t.outputs.rspValid = true →
    (t.outputs.rspStatus = some t.status.code ∧ t.outputs.rspFrame = none ∧
      ((s.phase = .off ∧ ∃ arg, s.offered = some (.init arg)) ∨ (s.phase = .pwrup ∧ t.status = .ok) ∨
        ((s.phase = .settle ∨ s.phase = .read) ∧ t.status = .busError))) ∨
    (t.outputs.rspStatus = some t.status.code ∧ t.outputs.rspFrame = t.rawframe ∧
      s.phase = .read ∧ t.status = .ok ∧ t.rawValid = true) ∨
    (t.outputs.rspStatus = some 0#2 ∧ t.outputs.rspFrame = none ∧ t.status = s.status ∧
      (s.phase = .off ∨ s.phase = .idle) ∧
      ((∃ f, s.offered = some (.decodei f)) ∨ ∃ arg, s.offered = some (.decode arg)))
end

