-- ==== Sys2Proof/Laws/Operands.lean ====
section
/-!
SUPPORT. What the decoder's functions give, bit by bit and as numbers.
-/

namespace Sys2Proof.Machine

/-- A bit of a field is a bit of the frame (41 R141). -/
@[simp] theorem extract_getLsbD (f : Frame) (pos w i : Nat) :
    (extract f pos w).getLsbD i = (decide (i < w) && f.getLsbD (pos + i)) := by
  simp [extract]

/-- A one-bit field is 1 exactly when the frame's bit is (41 R142). -/
theorem extract_one (f : Frame) (pos : Nat) : extract f pos 1 = 1#1 ↔ f.getLsbD pos = true := by
  constructor
  · intro h
    rw [← Nat.add_zero pos, ← Bool.true_and (f.getLsbD _), ← decide_eq_true Nat.zero_lt_one,
      ← extract_getLsbD, h]
    rfl
  · intro h
    apply BitVec.eq_of_getLsbD_eq
    intro i hi
    have : i = 0 := by omega
    subst this
    simp [h]

/-- What the decoder gives: a fault code other than `Ok`, or the two counts (41 R144, R151). -/
theorem decodeReading_cases (signPos : BitVec 1) (f : Frame) :
    (∃ c, c ≠ .ok ∧ classify f = c ∧ decodeReading signPos f = .fault c) ∨
    (classify f = .ok ∧ decodeReading signPos f = .temps (tcCountOf signPos f) (cjCountOf signPos f)) := by
  unfold decodeReading
  cases classify f
  · exact .inr ⟨rfl, rfl⟩
  all_goals exact .inl ⟨_, by decide, rfl, rfl⟩

end Sys2Proof.Machine
end

