-- ==== Sys2Proof/Laws/PerInstr.lean ====
section
/-!
SUPPORT. The one statement made per instruction: an instruction's words match the mask and the match
value of its row of spec/opcode_table.json.
-/

namespace Sys2Proof

/-- The words are a command word that matches the row of `op`. -/
def Encoded.inCmdRow (op : CmdOp) : Encoded → Bool
  | .cmd w => (cmdRow op).covers w
  | .frame _ => false

/-- The words are a frame that matches the row of class `c`. -/
def Encoded.inFrameRow (c : FaultCode) : Encoded → Bool
  | .cmd _ => false
  | .frame f => (frameRow c).covers f

namespace Laws.EncodingMatchesRow

/-- The words of the instruction match its row of the opcode table. -/
def Statement : Instr → Prop
  | .init arg => (encode (.init arg)).inCmdRow .init = true
  | .trigread arg => (encode (.trigread arg)).inCmdRow .trigread = true
  | .decode arg => (encode (.decode arg)).inCmdRow .decode = true
  | .decodei f => (encode (.decodei f)).inCmdRow .decodei = true
  | .frameReadFailure => (encode .frameReadFailure).inFrameRow .readFailure = true
  | .frameShortToVcc t scg oc => (encode (.frameShortToVcc t scg oc)).inFrameRow .shortToVcc = true
  | .frameShortToGnd t oc => (encode (.frameShortToGnd t oc)).inFrameRow .shortToGnd = true
  | .frameOpenCircuit t => (encode (.frameOpenCircuit t)).inFrameRow .openCircuit = true
  | .frameUnknown t => (encode (.frameUnknown t)).inFrameRow .unknown = true
  | .frameOk t low => (encode (.frameOk t low)).inFrameRow .ok = true

/-- A command word matches a row that fixes its two top bits only. -/
theorem cmd_covers (op : BitVec 2) (arg : BitVec 32) :
    cmdWordOf op arg &&& 0x300000000#34 = cmdWordOf op 0#32 := by
  apply BitVec.eq_of_getLsbD_eq
  intro i hi
  simp only [cmdWordOf, BitVec.getLsbD_and, BitVec.getLsbD_append]
  interval_cases i <;> simp

/-- The fault flag and the fault bits of a frame stand at bits 16 and 2 to 0. -/
theorem frame_covers (t : FrameFields) (flt scv scg oc : BitVec 1) :
    frameOf t flt scv scg oc &&& 0x00010007#32 = frameOf FrameFields.zero flt scv scg oc := by
  apply BitVec.eq_of_getLsbD_eq
  intro i hi
  simp only [frameOf, FrameFields.zero, BitVec.getLsbD_and, BitVec.getLsbD_append]
  interval_cases i <;> simp

/-- A row that fixes no other bits than the fault flag and the fault bits sees only those. -/
theorem frame_mask (t : FrameFields) (flt scv scg oc : BitVec 1) (mask : BitVec 32)
    (hm : 0x00010007#32 &&& mask = mask) :
    frameOf t flt scv scg oc &&& mask = frameOf FrameFields.zero flt scv scg oc &&& mask := by
  rw [← frame_covers t, BitVec.and_assoc, hm]

theorem init (arg : BitVec 32) : Statement (.init arg) := by
  simp only [Statement, encode, Encoded.inCmdRow, Row.covers, cmdRow, cmd_covers]
  decide

theorem trigread (arg : BitVec 32) : Statement (.trigread arg) := by
  simp only [Statement, encode, Encoded.inCmdRow, Row.covers, cmdRow, cmd_covers]
  decide

theorem decode (arg : BitVec 32) : Statement (.decode arg) := by
  simp only [Statement, encode, Encoded.inCmdRow, Row.covers, cmdRow, cmd_covers]
  decide

theorem decodei (f : Frame) : Statement (.decodei f) := by
  simp only [Statement, encode, Encoded.inCmdRow, Row.covers, cmdRow, cmd_covers]
  decide

theorem frameReadFailure : Statement .frameReadFailure := rfl

theorem frameShortToVcc (t : FrameFields) (scg oc : BitVec 1) : Statement (.frameShortToVcc t scg oc) := by
  simp only [Statement, encode, Encoded.inFrameRow, Row.covers, frameRow]
  rw [frame_mask _ _ _ _ _ _ (by decide)]
  revert scg oc
  decide

theorem frameShortToGnd (t : FrameFields) (oc : BitVec 1) : Statement (.frameShortToGnd t oc) := by
  simp only [Statement, encode, Encoded.inFrameRow, Row.covers, frameRow]
  rw [frame_mask _ _ _ _ _ _ (by decide)]
  revert oc
  decide

theorem frameOpenCircuit (t : FrameFields) : Statement (.frameOpenCircuit t) := by
  simp only [Statement, encode, Encoded.inFrameRow, Row.covers, frameRow]
  rw [frame_mask _ _ _ _ _ _ (by decide)]
  decide

theorem frameUnknown (t : FrameFields) : Statement (.frameUnknown t) := by
  simp only [Statement, encode, Encoded.inFrameRow, Row.covers, frameRow]
  rw [frame_mask _ _ _ _ _ _ (by decide)]
  decide

theorem frameOk (t : FrameFields) (low : BitVec 3) : Statement (.frameOk t low) := by
  simp only [Statement, encode, Encoded.inFrameRow, Row.covers, frameRow]
  rw [frame_mask _ _ _ _ _ _ (by decide)]
  revert low
  decide

end Laws.EncodingMatchesRow

end Sys2Proof
end

