-- ==== Sys2Proof/Laws/State.lean ====
section
/-!
SUPPORT. The small lemmas of the state: for each update, what every field holds after it. A proof
about a step cites these instead of unfolding a record update.
-/

namespace Sys2Proof.Machine

/-! ### Fields after the passing of a step -/

@[simp] theorem State.pass_cfg (s : State) : s.pass.cfg = s.cfg := rfl
@[simp] theorem State.pass_phase (s : State) : s.pass.phase = s.phase := rfl
@[simp] theorem State.pass_csN (s : State) : s.pass.csN = s.csN := rfl
@[simp] theorem State.pass_sck (s : State) : s.pass.sck = s.sck := rfl
@[simp] theorem State.pass_shift (s : State) : s.pass.shift = s.shift := rfl
@[simp] theorem State.pass_bitcnt (s : State) : s.pass.bitcnt = s.bitcnt := rfl
@[simp] theorem State.pass_timer (s : State) : s.pass.timer = s.timer := rfl
@[simp] theorem State.pass_clkTime (s : State) : s.pass.clkTime = s.clkTime := rfl
@[simp] theorem State.pass_edgeTime (s : State) : s.pass.edgeTime = s.edgeTime := rfl
@[simp] theorem State.pass_rawframe (s : State) : s.pass.rawframe = s.rawframe := rfl
@[simp] theorem State.pass_rawValid (s : State) : s.pass.rawValid = s.rawValid := rfl
@[simp] theorem State.pass_status (s : State) : s.pass.status = s.status := rfl
@[simp] theorem State.pass_resValid (s : State) : s.pass.resValid = s.resValid := rfl
@[simp] theorem State.pass_fault (s : State) : s.pass.fault = s.fault := rfl
@[simp] theorem State.pass_tempValid (s : State) : s.pass.tempValid = s.tempValid := rfl
@[simp] theorem State.pass_tcCount (s : State) : s.pass.tcCount = s.tcCount := rfl
@[simp] theorem State.pass_cjCount (s : State) : s.pass.cjCount = s.cjCount := rfl
@[simp] theorem State.pass_tcF20 (s : State) : s.pass.tcF20 = s.tcF20 := rfl
@[simp] theorem State.pass_cjF80 (s : State) : s.pass.cjF80 = s.cjF80 := rfl
@[simp] theorem State.pass_rsp (s : State) : s.pass.rsp = none := rfl
@[simp] theorem State.pass_env (s : State) : s.pass.env = s.env.tail := rfl
@[simp] theorem State.pass_draws (s : State) : s.pass.draws = s.draws + 1 := rfl

/-! ### Fields after a step of a wait that goes on (10 R31) -/

@[simp] theorem State.passTime_cfg (s : State) : s.passTime.cfg = s.cfg := rfl
@[simp] theorem State.passTime_phase (s : State) : s.passTime.phase = s.phase := rfl
@[simp] theorem State.passTime_csN (s : State) : s.passTime.csN = s.csN := rfl
@[simp] theorem State.passTime_sck (s : State) : s.passTime.sck = s.sck := rfl
@[simp] theorem State.passTime_shift (s : State) : s.passTime.shift = s.shift := rfl
@[simp] theorem State.passTime_bitcnt (s : State) : s.passTime.bitcnt = s.bitcnt := rfl
@[simp] theorem State.passTime_timer (s : State) : s.passTime.timer = s.timer + s.inputs.elapsed := rfl
@[simp] theorem State.passTime_clkTime (s : State) : s.passTime.clkTime = s.clkTime := rfl
@[simp] theorem State.passTime_edgeTime (s : State) : s.passTime.edgeTime = s.edgeTime := rfl
@[simp] theorem State.passTime_rawframe (s : State) : s.passTime.rawframe = s.rawframe := rfl
@[simp] theorem State.passTime_rawValid (s : State) : s.passTime.rawValid = s.rawValid := rfl
@[simp] theorem State.passTime_status (s : State) : s.passTime.status = s.status := rfl
@[simp] theorem State.passTime_resValid (s : State) : s.passTime.resValid = s.resValid := rfl
@[simp] theorem State.passTime_fault (s : State) : s.passTime.fault = s.fault := rfl
@[simp] theorem State.passTime_tempValid (s : State) : s.passTime.tempValid = s.tempValid := rfl
@[simp] theorem State.passTime_tcCount (s : State) : s.passTime.tcCount = s.tcCount := rfl
@[simp] theorem State.passTime_cjCount (s : State) : s.passTime.cjCount = s.cjCount := rfl
@[simp] theorem State.passTime_tcF20 (s : State) : s.passTime.tcF20 = s.tcF20 := rfl
@[simp] theorem State.passTime_cjF80 (s : State) : s.passTime.cjF80 = s.cjF80 := rfl
@[simp] theorem State.passTime_rsp (s : State) : s.passTime.rsp = none := rfl
@[simp] theorem State.passTime_env (s : State) : s.passTime.env = s.env.tail := rfl
@[simp] theorem State.passTime_draws (s : State) : s.passTime.draws = s.draws + 1 := rfl

/-! ### Fields after a step of P_READ in which no pin moves (log 21) -/

@[simp] theorem State.passClock_cfg (s : State) : s.passClock.cfg = s.cfg := rfl
@[simp] theorem State.passClock_phase (s : State) : s.passClock.phase = s.phase := rfl
@[simp] theorem State.passClock_csN (s : State) : s.passClock.csN = s.csN := rfl
@[simp] theorem State.passClock_sck (s : State) : s.passClock.sck = s.sck := rfl
@[simp] theorem State.passClock_shift (s : State) : s.passClock.shift = s.shift := rfl
@[simp] theorem State.passClock_bitcnt (s : State) : s.passClock.bitcnt = s.bitcnt := rfl
@[simp] theorem State.passClock_timer (s : State) : s.passClock.timer = s.timer := rfl
@[simp] theorem State.passClock_clkTime (s : State) : s.passClock.clkTime = s.clkTime + s.inputs.elapsed := rfl
@[simp] theorem State.passClock_edgeTime (s : State) : s.passClock.edgeTime = s.edgeTime + s.inputs.elapsed := rfl
@[simp] theorem State.passClock_rawframe (s : State) : s.passClock.rawframe = s.rawframe := rfl
@[simp] theorem State.passClock_rawValid (s : State) : s.passClock.rawValid = s.rawValid := rfl
@[simp] theorem State.passClock_status (s : State) : s.passClock.status = s.status := rfl
@[simp] theorem State.passClock_resValid (s : State) : s.passClock.resValid = s.resValid := rfl
@[simp] theorem State.passClock_fault (s : State) : s.passClock.fault = s.fault := rfl
@[simp] theorem State.passClock_tempValid (s : State) : s.passClock.tempValid = s.tempValid := rfl
@[simp] theorem State.passClock_tcCount (s : State) : s.passClock.tcCount = s.tcCount := rfl
@[simp] theorem State.passClock_cjCount (s : State) : s.passClock.cjCount = s.cjCount := rfl
@[simp] theorem State.passClock_tcF20 (s : State) : s.passClock.tcF20 = s.tcF20 := rfl
@[simp] theorem State.passClock_cjF80 (s : State) : s.passClock.cjF80 = s.cjF80 := rfl
@[simp] theorem State.passClock_rsp (s : State) : s.passClock.rsp = none := rfl
@[simp] theorem State.passClock_env (s : State) : s.passClock.env = s.env.tail := rfl
@[simp] theorem State.passClock_draws (s : State) : s.passClock.draws = s.draws + 1 := rfl

/-! ### Fields after a response (30 R83) -/

@[simp] theorem State.respond_cfg (s : State) (st : Status) (f : Option Frame) : (s.respond st f).cfg = s.cfg := rfl
@[simp] theorem State.respond_phase (s : State) (st : Status) (f : Option Frame) : (s.respond st f).phase = s.phase := rfl
@[simp] theorem State.respond_csN (s : State) (st : Status) (f : Option Frame) : (s.respond st f).csN = s.csN := rfl
@[simp] theorem State.respond_sck (s : State) (st : Status) (f : Option Frame) : (s.respond st f).sck = s.sck := rfl
@[simp] theorem State.respond_shift (s : State) (st : Status) (f : Option Frame) : (s.respond st f).shift = s.shift := rfl
@[simp] theorem State.respond_bitcnt (s : State) (st : Status) (f : Option Frame) : (s.respond st f).bitcnt = s.bitcnt := rfl
@[simp] theorem State.respond_timer (s : State) (st : Status) (f : Option Frame) : (s.respond st f).timer = s.timer := rfl
@[simp] theorem State.respond_clkTime (s : State) (st : Status) (f : Option Frame) : (s.respond st f).clkTime = s.clkTime := rfl
@[simp] theorem State.respond_edgeTime (s : State) (st : Status) (f : Option Frame) : (s.respond st f).edgeTime = s.edgeTime := rfl
@[simp] theorem State.respond_rawframe (s : State) (st : Status) (f : Option Frame) : (s.respond st f).rawframe = s.rawframe := rfl
@[simp] theorem State.respond_rawValid (s : State) (st : Status) (f : Option Frame) : (s.respond st f).rawValid = s.rawValid := rfl
@[simp] theorem State.respond_status (s : State) (st : Status) (f : Option Frame) : (s.respond st f).status = s.status := rfl
@[simp] theorem State.respond_resValid (s : State) (st : Status) (f : Option Frame) : (s.respond st f).resValid = s.resValid := rfl
@[simp] theorem State.respond_fault (s : State) (st : Status) (f : Option Frame) : (s.respond st f).fault = s.fault := rfl
@[simp] theorem State.respond_tempValid (s : State) (st : Status) (f : Option Frame) : (s.respond st f).tempValid = s.tempValid := rfl
@[simp] theorem State.respond_tcCount (s : State) (st : Status) (f : Option Frame) : (s.respond st f).tcCount = s.tcCount := rfl
@[simp] theorem State.respond_cjCount (s : State) (st : Status) (f : Option Frame) : (s.respond st f).cjCount = s.cjCount := rfl
@[simp] theorem State.respond_tcF20 (s : State) (st : Status) (f : Option Frame) : (s.respond st f).tcF20 = s.tcF20 := rfl
@[simp] theorem State.respond_cjF80 (s : State) (st : Status) (f : Option Frame) : (s.respond st f).cjF80 = s.cjF80 := rfl
@[simp] theorem State.respond_rsp (s : State) (st : Status) (f : Option Frame) : (s.respond st f).rsp = some ⟨st, f⟩ := rfl
@[simp] theorem State.respond_env (s : State) (st : Status) (f : Option Frame) : (s.respond st f).env = s.env := rfl
@[simp] theorem State.respond_draws (s : State) (st : Status) (f : Option Frame) : (s.respond st f).draws = s.draws := rfl

/-! ### Fields after `InitError` (60 R203) -/

@[simp] theorem State.raise_initError_cfg (s : State) : (s.raise .initError).cfg = s.cfg := rfl
@[simp] theorem State.raise_initError_phase (s : State) : (s.raise .initError).phase = s.phase := rfl
@[simp] theorem State.raise_initError_csN (s : State) : (s.raise .initError).csN = s.csN := rfl
@[simp] theorem State.raise_initError_sck (s : State) : (s.raise .initError).sck = s.sck := rfl
@[simp] theorem State.raise_initError_shift (s : State) : (s.raise .initError).shift = s.shift := rfl
@[simp] theorem State.raise_initError_bitcnt (s : State) : (s.raise .initError).bitcnt = s.bitcnt := rfl
@[simp] theorem State.raise_initError_timer (s : State) : (s.raise .initError).timer = s.timer := rfl
@[simp] theorem State.raise_initError_clkTime (s : State) : (s.raise .initError).clkTime = s.clkTime := rfl
@[simp] theorem State.raise_initError_edgeTime (s : State) : (s.raise .initError).edgeTime = s.edgeTime := rfl
@[simp] theorem State.raise_initError_rawframe (s : State) : (s.raise .initError).rawframe = s.rawframe := rfl
@[simp] theorem State.raise_initError_rawValid (s : State) : (s.raise .initError).rawValid = s.rawValid := rfl
@[simp] theorem State.raise_initError_status (s : State) : (s.raise .initError).status = .initError := rfl
@[simp] theorem State.raise_initError_resValid (s : State) : (s.raise .initError).resValid = s.resValid := rfl
@[simp] theorem State.raise_initError_fault (s : State) : (s.raise .initError).fault = s.fault := rfl
@[simp] theorem State.raise_initError_tempValid (s : State) : (s.raise .initError).tempValid = s.tempValid := rfl
@[simp] theorem State.raise_initError_tcCount (s : State) : (s.raise .initError).tcCount = s.tcCount := rfl
@[simp] theorem State.raise_initError_cjCount (s : State) : (s.raise .initError).cjCount = s.cjCount := rfl
@[simp] theorem State.raise_initError_tcF20 (s : State) : (s.raise .initError).tcF20 = s.tcF20 := rfl
@[simp] theorem State.raise_initError_cjF80 (s : State) : (s.raise .initError).cjF80 = s.cjF80 := rfl
@[simp] theorem State.raise_initError_rsp (s : State) : (s.raise .initError).rsp = some ⟨.initError, none⟩ := rfl
@[simp] theorem State.raise_initError_env (s : State) : (s.raise .initError).env = s.env := rfl
@[simp] theorem State.raise_initError_draws (s : State) : (s.raise .initError).draws = s.draws := rfl

/-! ### Fields after `BusError` (60 R204) -/

@[simp] theorem State.raise_busError_cfg (s : State) : (s.raise .busError).cfg = s.cfg := rfl
@[simp] theorem State.raise_busError_phase (s : State) : (s.raise .busError).phase = .idle := rfl
@[simp] theorem State.raise_busError_csN (s : State) : (s.raise .busError).csN = true := rfl
@[simp] theorem State.raise_busError_sck (s : State) : (s.raise .busError).sck = false := rfl
@[simp] theorem State.raise_busError_shift (s : State) : (s.raise .busError).shift = none := rfl
@[simp] theorem State.raise_busError_bitcnt (s : State) : (s.raise .busError).bitcnt = s.bitcnt := rfl
@[simp] theorem State.raise_busError_timer (s : State) : (s.raise .busError).timer = 0 := rfl
@[simp] theorem State.raise_busError_clkTime (s : State) : (s.raise .busError).clkTime = 0 := rfl
@[simp] theorem State.raise_busError_edgeTime (s : State) : (s.raise .busError).edgeTime = 0 := rfl
@[simp] theorem State.raise_busError_rawframe (s : State) : (s.raise .busError).rawframe = s.rawframe := rfl
@[simp] theorem State.raise_busError_rawValid (s : State) : (s.raise .busError).rawValid = s.rawValid := rfl
@[simp] theorem State.raise_busError_status (s : State) : (s.raise .busError).status = .busError := rfl
@[simp] theorem State.raise_busError_resValid (s : State) : (s.raise .busError).resValid = s.resValid := rfl
@[simp] theorem State.raise_busError_fault (s : State) : (s.raise .busError).fault = s.fault := rfl
@[simp] theorem State.raise_busError_tempValid (s : State) : (s.raise .busError).tempValid = s.tempValid := rfl
@[simp] theorem State.raise_busError_tcCount (s : State) : (s.raise .busError).tcCount = s.tcCount := rfl
@[simp] theorem State.raise_busError_cjCount (s : State) : (s.raise .busError).cjCount = s.cjCount := rfl
@[simp] theorem State.raise_busError_tcF20 (s : State) : (s.raise .busError).tcF20 = s.tcF20 := rfl
@[simp] theorem State.raise_busError_cjF80 (s : State) : (s.raise .busError).cjF80 = s.cjF80 := rfl
@[simp] theorem State.raise_busError_rsp (s : State) : (s.raise .busError).rsp = some ⟨.busError, none⟩ := rfl
@[simp] theorem State.raise_busError_env (s : State) : (s.raise .busError).env = s.env := rfl
@[simp] theorem State.raise_busError_draws (s : State) : (s.raise .busError).draws = s.draws := rfl

/-! ### Fields after step IN1 (40 R102) -/

@[simp] theorem State.stepIN1_cfg (s : State) : s.stepIN1.cfg = s.cfg := rfl
@[simp] theorem State.stepIN1_phase (s : State) : s.stepIN1.phase = .pwrup := rfl
@[simp] theorem State.stepIN1_csN (s : State) : s.stepIN1.csN = true := rfl
@[simp] theorem State.stepIN1_sck (s : State) : s.stepIN1.sck = false := rfl
@[simp] theorem State.stepIN1_shift (s : State) : s.stepIN1.shift = s.shift := rfl
@[simp] theorem State.stepIN1_bitcnt (s : State) : s.stepIN1.bitcnt = s.bitcnt := rfl
@[simp] theorem State.stepIN1_timer (s : State) : s.stepIN1.timer = 0 := rfl
@[simp] theorem State.stepIN1_clkTime (s : State) : s.stepIN1.clkTime = s.clkTime := rfl
@[simp] theorem State.stepIN1_edgeTime (s : State) : s.stepIN1.edgeTime = s.edgeTime := rfl
@[simp] theorem State.stepIN1_rawframe (s : State) : s.stepIN1.rawframe = s.rawframe := rfl
@[simp] theorem State.stepIN1_rawValid (s : State) : s.stepIN1.rawValid = s.rawValid := rfl
@[simp] theorem State.stepIN1_status (s : State) : s.stepIN1.status = s.status := rfl
@[simp] theorem State.stepIN1_resValid (s : State) : s.stepIN1.resValid = s.resValid := rfl
@[simp] theorem State.stepIN1_fault (s : State) : s.stepIN1.fault = s.fault := rfl
@[simp] theorem State.stepIN1_tempValid (s : State) : s.stepIN1.tempValid = s.tempValid := rfl
@[simp] theorem State.stepIN1_tcCount (s : State) : s.stepIN1.tcCount = s.tcCount := rfl
@[simp] theorem State.stepIN1_cjCount (s : State) : s.stepIN1.cjCount = s.cjCount := rfl
@[simp] theorem State.stepIN1_tcF20 (s : State) : s.stepIN1.tcF20 = s.tcF20 := rfl
@[simp] theorem State.stepIN1_cjF80 (s : State) : s.stepIN1.cjF80 = s.cjF80 := rfl
@[simp] theorem State.stepIN1_rsp (s : State) : s.stepIN1.rsp = s.rsp := rfl
@[simp] theorem State.stepIN1_env (s : State) : s.stepIN1.env = s.env := rfl
@[simp] theorem State.stepIN1_draws (s : State) : s.stepIN1.draws = s.draws := rfl

/-! ### Fields after step IN2 (40 R103) -/

@[simp] theorem State.stepIN2_cfg (s : State) : s.stepIN2.cfg = s.cfg := rfl
@[simp] theorem State.stepIN2_phase (s : State) : s.stepIN2.phase = .idle := rfl
@[simp] theorem State.stepIN2_csN (s : State) : s.stepIN2.csN = s.csN := rfl
@[simp] theorem State.stepIN2_sck (s : State) : s.stepIN2.sck = s.sck := rfl
@[simp] theorem State.stepIN2_shift (s : State) : s.stepIN2.shift = s.shift := rfl
@[simp] theorem State.stepIN2_bitcnt (s : State) : s.stepIN2.bitcnt = s.bitcnt := rfl
@[simp] theorem State.stepIN2_timer (s : State) : s.stepIN2.timer = 0 := rfl
@[simp] theorem State.stepIN2_clkTime (s : State) : s.stepIN2.clkTime = s.clkTime := rfl
@[simp] theorem State.stepIN2_edgeTime (s : State) : s.stepIN2.edgeTime = s.edgeTime := rfl
@[simp] theorem State.stepIN2_rawframe (s : State) : s.stepIN2.rawframe = s.rawframe := rfl
@[simp] theorem State.stepIN2_rawValid (s : State) : s.stepIN2.rawValid = s.rawValid := rfl
@[simp] theorem State.stepIN2_status (s : State) : s.stepIN2.status = .ok := rfl
@[simp] theorem State.stepIN2_resValid (s : State) : s.stepIN2.resValid = s.resValid := rfl
@[simp] theorem State.stepIN2_fault (s : State) : s.stepIN2.fault = s.fault := rfl
@[simp] theorem State.stepIN2_tempValid (s : State) : s.stepIN2.tempValid = s.tempValid := rfl
@[simp] theorem State.stepIN2_tcCount (s : State) : s.stepIN2.tcCount = s.tcCount := rfl
@[simp] theorem State.stepIN2_cjCount (s : State) : s.stepIN2.cjCount = s.cjCount := rfl
@[simp] theorem State.stepIN2_tcF20 (s : State) : s.stepIN2.tcF20 = s.tcF20 := rfl
@[simp] theorem State.stepIN2_cjF80 (s : State) : s.stepIN2.cjF80 = s.cjF80 := rfl
@[simp] theorem State.stepIN2_rsp (s : State) : s.stepIN2.rsp = some ⟨.ok, none⟩ := rfl
@[simp] theorem State.stepIN2_env (s : State) : s.stepIN2.env = s.env := rfl
@[simp] theorem State.stepIN2_draws (s : State) : s.stepIN2.draws = s.draws := rfl

/-! ### Fields after step TR1 (40 R106) -/

@[simp] theorem State.stepTR1_cfg (s : State) : s.stepTR1.cfg = s.cfg := rfl
@[simp] theorem State.stepTR1_phase (s : State) : s.stepTR1.phase = .trig := rfl
@[simp] theorem State.stepTR1_csN (s : State) : s.stepTR1.csN = false := rfl
@[simp] theorem State.stepTR1_sck (s : State) : s.stepTR1.sck = s.sck := rfl
@[simp] theorem State.stepTR1_shift (s : State) : s.stepTR1.shift = s.shift := rfl
@[simp] theorem State.stepTR1_bitcnt (s : State) : s.stepTR1.bitcnt = s.bitcnt := rfl
@[simp] theorem State.stepTR1_timer (s : State) : s.stepTR1.timer = 0 := rfl
@[simp] theorem State.stepTR1_clkTime (s : State) : s.stepTR1.clkTime = s.clkTime := rfl
@[simp] theorem State.stepTR1_edgeTime (s : State) : s.stepTR1.edgeTime = s.edgeTime := rfl
@[simp] theorem State.stepTR1_rawframe (s : State) : s.stepTR1.rawframe = s.rawframe := rfl
@[simp] theorem State.stepTR1_rawValid (s : State) : s.stepTR1.rawValid = s.rawValid := rfl
@[simp] theorem State.stepTR1_status (s : State) : s.stepTR1.status = s.status := rfl
@[simp] theorem State.stepTR1_resValid (s : State) : s.stepTR1.resValid = s.resValid := rfl
@[simp] theorem State.stepTR1_fault (s : State) : s.stepTR1.fault = s.fault := rfl
@[simp] theorem State.stepTR1_tempValid (s : State) : s.stepTR1.tempValid = s.tempValid := rfl
@[simp] theorem State.stepTR1_tcCount (s : State) : s.stepTR1.tcCount = s.tcCount := rfl
@[simp] theorem State.stepTR1_cjCount (s : State) : s.stepTR1.cjCount = s.cjCount := rfl
@[simp] theorem State.stepTR1_tcF20 (s : State) : s.stepTR1.tcF20 = s.tcF20 := rfl
@[simp] theorem State.stepTR1_cjF80 (s : State) : s.stepTR1.cjF80 = s.cjF80 := rfl
@[simp] theorem State.stepTR1_rsp (s : State) : s.stepTR1.rsp = s.rsp := rfl
@[simp] theorem State.stepTR1_env (s : State) : s.stepTR1.env = s.env := rfl
@[simp] theorem State.stepTR1_draws (s : State) : s.stepTR1.draws = s.draws := rfl

/-! ### Fields after step TR2 (40 R107) -/

@[simp] theorem State.stepTR2_cfg (s : State) : s.stepTR2.cfg = s.cfg := rfl
@[simp] theorem State.stepTR2_phase (s : State) : s.stepTR2.phase = .settle := rfl
@[simp] theorem State.stepTR2_csN (s : State) : s.stepTR2.csN = true := rfl
@[simp] theorem State.stepTR2_sck (s : State) : s.stepTR2.sck = s.sck := rfl
@[simp] theorem State.stepTR2_shift (s : State) : s.stepTR2.shift = s.shift := rfl
@[simp] theorem State.stepTR2_bitcnt (s : State) : s.stepTR2.bitcnt = s.bitcnt := rfl
@[simp] theorem State.stepTR2_timer (s : State) : s.stepTR2.timer = 0 := rfl
@[simp] theorem State.stepTR2_clkTime (s : State) : s.stepTR2.clkTime = s.clkTime := rfl
@[simp] theorem State.stepTR2_edgeTime (s : State) : s.stepTR2.edgeTime = s.edgeTime := rfl
@[simp] theorem State.stepTR2_rawframe (s : State) : s.stepTR2.rawframe = s.rawframe := rfl
@[simp] theorem State.stepTR2_rawValid (s : State) : s.stepTR2.rawValid = s.rawValid := rfl
@[simp] theorem State.stepTR2_status (s : State) : s.stepTR2.status = s.status := rfl
@[simp] theorem State.stepTR2_resValid (s : State) : s.stepTR2.resValid = s.resValid := rfl
@[simp] theorem State.stepTR2_fault (s : State) : s.stepTR2.fault = s.fault := rfl
@[simp] theorem State.stepTR2_tempValid (s : State) : s.stepTR2.tempValid = s.tempValid := rfl
@[simp] theorem State.stepTR2_tcCount (s : State) : s.stepTR2.tcCount = s.tcCount := rfl
@[simp] theorem State.stepTR2_cjCount (s : State) : s.stepTR2.cjCount = s.cjCount := rfl
@[simp] theorem State.stepTR2_tcF20 (s : State) : s.stepTR2.tcF20 = s.tcF20 := rfl
@[simp] theorem State.stepTR2_cjF80 (s : State) : s.stepTR2.cjF80 = s.cjF80 := rfl
@[simp] theorem State.stepTR2_rsp (s : State) : s.stepTR2.rsp = s.rsp := rfl
@[simp] theorem State.stepTR2_env (s : State) : s.stepTR2.env = s.env := rfl
@[simp] theorem State.stepTR2_draws (s : State) : s.stepTR2.draws = s.draws := rfl

/-! ### Fields after step TR3 (40 R108) -/

@[simp] theorem State.stepTR3_cfg (s : State) : s.stepTR3.cfg = s.cfg := rfl
@[simp] theorem State.stepTR3_phase (s : State) : s.stepTR3.phase = .read := rfl
@[simp] theorem State.stepTR3_csN (s : State) : s.stepTR3.csN = false := rfl
@[simp] theorem State.stepTR3_sck (s : State) : s.stepTR3.sck = s.sck := rfl
@[simp] theorem State.stepTR3_shift (s : State) : s.stepTR3.shift = s.shift := rfl
@[simp] theorem State.stepTR3_bitcnt (s : State) : s.stepTR3.bitcnt = 0#6 := rfl
@[simp] theorem State.stepTR3_timer (s : State) : s.stepTR3.timer = 0 := rfl
@[simp] theorem State.stepTR3_clkTime (s : State) : s.stepTR3.clkTime = 0 := rfl
@[simp] theorem State.stepTR3_edgeTime (s : State) : s.stepTR3.edgeTime = 0 := rfl
@[simp] theorem State.stepTR3_rawframe (s : State) : s.stepTR3.rawframe = s.rawframe := rfl
@[simp] theorem State.stepTR3_rawValid (s : State) : s.stepTR3.rawValid = s.rawValid := rfl
@[simp] theorem State.stepTR3_status (s : State) : s.stepTR3.status = s.status := rfl
@[simp] theorem State.stepTR3_resValid (s : State) : s.stepTR3.resValid = s.resValid := rfl
@[simp] theorem State.stepTR3_fault (s : State) : s.stepTR3.fault = s.fault := rfl
@[simp] theorem State.stepTR3_tempValid (s : State) : s.stepTR3.tempValid = s.tempValid := rfl
@[simp] theorem State.stepTR3_tcCount (s : State) : s.stepTR3.tcCount = s.tcCount := rfl
@[simp] theorem State.stepTR3_cjCount (s : State) : s.stepTR3.cjCount = s.cjCount := rfl
@[simp] theorem State.stepTR3_tcF20 (s : State) : s.stepTR3.tcF20 = s.tcF20 := rfl
@[simp] theorem State.stepTR3_cjF80 (s : State) : s.stepTR3.cjF80 = s.cjF80 := rfl
@[simp] theorem State.stepTR3_rsp (s : State) : s.stepTR3.rsp = s.rsp := rfl
@[simp] theorem State.stepTR3_env (s : State) : s.stepTR3.env = s.env := rfl
@[simp] theorem State.stepTR3_draws (s : State) : s.stepTR3.draws = s.draws := rfl

/-! ### Fields after the first half of step TR4 (40 R109) -/

@[simp] theorem State.stepTR4Rise_cfg (s : State) : s.stepTR4Rise.cfg = s.cfg := rfl
@[simp] theorem State.stepTR4Rise_phase (s : State) : s.stepTR4Rise.phase = s.phase := rfl
@[simp] theorem State.stepTR4Rise_csN (s : State) : s.stepTR4Rise.csN = s.csN := rfl
@[simp] theorem State.stepTR4Rise_sck (s : State) : s.stepTR4Rise.sck = true := rfl
@[simp] theorem State.stepTR4Rise_shift (s : State) : s.stepTR4Rise.shift = s.shift := rfl
@[simp] theorem State.stepTR4Rise_bitcnt (s : State) : s.stepTR4Rise.bitcnt = s.bitcnt := rfl
@[simp] theorem State.stepTR4Rise_timer (s : State) : s.stepTR4Rise.timer = s.timer := rfl
@[simp] theorem State.stepTR4Rise_clkTime (s : State) : s.stepTR4Rise.clkTime = 0 := rfl
@[simp] theorem State.stepTR4Rise_edgeTime (s : State) : s.stepTR4Rise.edgeTime = 0 := rfl
@[simp] theorem State.stepTR4Rise_rawframe (s : State) : s.stepTR4Rise.rawframe = s.rawframe := rfl
@[simp] theorem State.stepTR4Rise_rawValid (s : State) : s.stepTR4Rise.rawValid = s.rawValid := rfl
@[simp] theorem State.stepTR4Rise_status (s : State) : s.stepTR4Rise.status = s.status := rfl
@[simp] theorem State.stepTR4Rise_resValid (s : State) : s.stepTR4Rise.resValid = s.resValid := rfl
@[simp] theorem State.stepTR4Rise_fault (s : State) : s.stepTR4Rise.fault = s.fault := rfl
@[simp] theorem State.stepTR4Rise_tempValid (s : State) : s.stepTR4Rise.tempValid = s.tempValid := rfl
@[simp] theorem State.stepTR4Rise_tcCount (s : State) : s.stepTR4Rise.tcCount = s.tcCount := rfl
@[simp] theorem State.stepTR4Rise_cjCount (s : State) : s.stepTR4Rise.cjCount = s.cjCount := rfl
@[simp] theorem State.stepTR4Rise_tcF20 (s : State) : s.stepTR4Rise.tcF20 = s.tcF20 := rfl
@[simp] theorem State.stepTR4Rise_cjF80 (s : State) : s.stepTR4Rise.cjF80 = s.cjF80 := rfl
@[simp] theorem State.stepTR4Rise_rsp (s : State) : s.stepTR4Rise.rsp = s.rsp := rfl
@[simp] theorem State.stepTR4Rise_env (s : State) : s.stepTR4Rise.env = s.env := rfl
@[simp] theorem State.stepTR4Rise_draws (s : State) : s.stepTR4Rise.draws = s.draws := rfl

/-! ### Fields after the second half of step TR4 (40 R109) -/

@[simp] theorem State.stepTR4Fall_cfg (s : State) (old : BitVec 32) (b : Level) : (s.stepTR4Fall old b).cfg = s.cfg := rfl
@[simp] theorem State.stepTR4Fall_phase (s : State) (old : BitVec 32) (b : Level) : (s.stepTR4Fall old b).phase = s.phase := rfl
@[simp] theorem State.stepTR4Fall_csN (s : State) (old : BitVec 32) (b : Level) : (s.stepTR4Fall old b).csN = s.csN := rfl
@[simp] theorem State.stepTR4Fall_sck (s : State) (old : BitVec 32) (b : Level) : (s.stepTR4Fall old b).sck = false := rfl
@[simp] theorem State.stepTR4Fall_shift (s : State) (old : BitVec 32) (b : Level) : (s.stepTR4Fall old b).shift = some (shiftIn (s.shift.getD old) b) := rfl
@[simp] theorem State.stepTR4Fall_bitcnt (s : State) (old : BitVec 32) (b : Level) : (s.stepTR4Fall old b).bitcnt = s.bitcnt + 1#6 := rfl
@[simp] theorem State.stepTR4Fall_timer (s : State) (old : BitVec 32) (b : Level) : (s.stepTR4Fall old b).timer = s.timer := rfl
@[simp] theorem State.stepTR4Fall_clkTime (s : State) (old : BitVec 32) (b : Level) : (s.stepTR4Fall old b).clkTime = s.clkTime := rfl
@[simp] theorem State.stepTR4Fall_edgeTime (s : State) (old : BitVec 32) (b : Level) : (s.stepTR4Fall old b).edgeTime = 0 := rfl
@[simp] theorem State.stepTR4Fall_rawframe (s : State) (old : BitVec 32) (b : Level) : (s.stepTR4Fall old b).rawframe = s.rawframe := rfl
@[simp] theorem State.stepTR4Fall_rawValid (s : State) (old : BitVec 32) (b : Level) : (s.stepTR4Fall old b).rawValid = s.rawValid := rfl
@[simp] theorem State.stepTR4Fall_status (s : State) (old : BitVec 32) (b : Level) : (s.stepTR4Fall old b).status = s.status := rfl
@[simp] theorem State.stepTR4Fall_resValid (s : State) (old : BitVec 32) (b : Level) : (s.stepTR4Fall old b).resValid = s.resValid := rfl
@[simp] theorem State.stepTR4Fall_fault (s : State) (old : BitVec 32) (b : Level) : (s.stepTR4Fall old b).fault = s.fault := rfl
@[simp] theorem State.stepTR4Fall_tempValid (s : State) (old : BitVec 32) (b : Level) : (s.stepTR4Fall old b).tempValid = s.tempValid := rfl
@[simp] theorem State.stepTR4Fall_tcCount (s : State) (old : BitVec 32) (b : Level) : (s.stepTR4Fall old b).tcCount = s.tcCount := rfl
@[simp] theorem State.stepTR4Fall_cjCount (s : State) (old : BitVec 32) (b : Level) : (s.stepTR4Fall old b).cjCount = s.cjCount := rfl
@[simp] theorem State.stepTR4Fall_tcF20 (s : State) (old : BitVec 32) (b : Level) : (s.stepTR4Fall old b).tcF20 = s.tcF20 := rfl
@[simp] theorem State.stepTR4Fall_cjF80 (s : State) (old : BitVec 32) (b : Level) : (s.stepTR4Fall old b).cjF80 = s.cjF80 := rfl
@[simp] theorem State.stepTR4Fall_rsp (s : State) (old : BitVec 32) (b : Level) : (s.stepTR4Fall old b).rsp = s.rsp := rfl
@[simp] theorem State.stepTR4Fall_env (s : State) (old : BitVec 32) (b : Level) : (s.stepTR4Fall old b).env = s.env := rfl
@[simp] theorem State.stepTR4Fall_draws (s : State) (old : BitVec 32) (b : Level) : (s.stepTR4Fall old b).draws = s.draws := rfl

/-! ### Fields after step TR5 (40 R110) -/

@[simp] theorem State.stepTR5_cfg (s : State) : s.stepTR5.cfg = s.cfg := rfl
@[simp] theorem State.stepTR5_phase (s : State) : s.stepTR5.phase = .idle := rfl
@[simp] theorem State.stepTR5_csN (s : State) : s.stepTR5.csN = true := rfl
@[simp] theorem State.stepTR5_sck (s : State) : s.stepTR5.sck = s.sck := rfl
@[simp] theorem State.stepTR5_shift (s : State) : s.stepTR5.shift = none := rfl
@[simp] theorem State.stepTR5_bitcnt (s : State) : s.stepTR5.bitcnt = s.bitcnt := rfl
@[simp] theorem State.stepTR5_timer (s : State) : s.stepTR5.timer = s.timer := rfl
@[simp] theorem State.stepTR5_clkTime (s : State) : s.stepTR5.clkTime = 0 := rfl
@[simp] theorem State.stepTR5_edgeTime (s : State) : s.stepTR5.edgeTime = 0 := rfl
@[simp] theorem State.stepTR5_rawframe (s : State) : s.stepTR5.rawframe = s.shift := rfl
@[simp] theorem State.stepTR5_rawValid (s : State) : s.stepTR5.rawValid = true := rfl
@[simp] theorem State.stepTR5_status (s : State) : s.stepTR5.status = .ok := rfl
@[simp] theorem State.stepTR5_resValid (s : State) : s.stepTR5.resValid = s.resValid := rfl
@[simp] theorem State.stepTR5_fault (s : State) : s.stepTR5.fault = s.fault := rfl
@[simp] theorem State.stepTR5_tempValid (s : State) : s.stepTR5.tempValid = s.tempValid := rfl
@[simp] theorem State.stepTR5_tcCount (s : State) : s.stepTR5.tcCount = s.tcCount := rfl
@[simp] theorem State.stepTR5_cjCount (s : State) : s.stepTR5.cjCount = s.cjCount := rfl
@[simp] theorem State.stepTR5_tcF20 (s : State) : s.stepTR5.tcF20 = s.tcF20 := rfl
@[simp] theorem State.stepTR5_cjF80 (s : State) : s.stepTR5.cjF80 = s.cjF80 := rfl
@[simp] theorem State.stepTR5_rsp (s : State) : s.stepTR5.rsp = some ⟨.ok, s.shift⟩ := rfl
@[simp] theorem State.stepTR5_env (s : State) : s.stepTR5.env = s.env := rfl
@[simp] theorem State.stepTR5_draws (s : State) : s.stepTR5.draws = s.draws := rfl

/-! ### Fields after WriteResult of temperatures (41 R162) -/

@[simp] theorem State.writeResult_temps_cfg (s : State) (n m : Count) : (s.writeResult (.temps n m)).cfg = s.cfg := rfl
@[simp] theorem State.writeResult_temps_phase (s : State) (n m : Count) : (s.writeResult (.temps n m)).phase = s.phase := rfl
@[simp] theorem State.writeResult_temps_csN (s : State) (n m : Count) : (s.writeResult (.temps n m)).csN = s.csN := rfl
@[simp] theorem State.writeResult_temps_sck (s : State) (n m : Count) : (s.writeResult (.temps n m)).sck = s.sck := rfl
@[simp] theorem State.writeResult_temps_shift (s : State) (n m : Count) : (s.writeResult (.temps n m)).shift = s.shift := rfl
@[simp] theorem State.writeResult_temps_bitcnt (s : State) (n m : Count) : (s.writeResult (.temps n m)).bitcnt = s.bitcnt := rfl
@[simp] theorem State.writeResult_temps_timer (s : State) (n m : Count) : (s.writeResult (.temps n m)).timer = s.timer := rfl
@[simp] theorem State.writeResult_temps_clkTime (s : State) (n m : Count) : (s.writeResult (.temps n m)).clkTime = s.clkTime := rfl
@[simp] theorem State.writeResult_temps_edgeTime (s : State) (n m : Count) : (s.writeResult (.temps n m)).edgeTime = s.edgeTime := rfl
@[simp] theorem State.writeResult_temps_rawframe (s : State) (n m : Count) : (s.writeResult (.temps n m)).rawframe = s.rawframe := rfl
@[simp] theorem State.writeResult_temps_rawValid (s : State) (n m : Count) : (s.writeResult (.temps n m)).rawValid = s.rawValid := rfl
@[simp] theorem State.writeResult_temps_status (s : State) (n m : Count) : (s.writeResult (.temps n m)).status = s.status := rfl
@[simp] theorem State.writeResult_temps_resValid (s : State) (n m : Count) : (s.writeResult (.temps n m)).resValid = true := rfl
@[simp] theorem State.writeResult_temps_fault (s : State) (n m : Count) : (s.writeResult (.temps n m)).fault = some .ok := rfl
@[simp] theorem State.writeResult_temps_tempValid (s : State) (n m : Count) : (s.writeResult (.temps n m)).tempValid = true := rfl
@[simp] theorem State.writeResult_temps_tcCount (s : State) (n m : Count) : (s.writeResult (.temps n m)).tcCount = some n := rfl
@[simp] theorem State.writeResult_temps_cjCount (s : State) (n m : Count) : (s.writeResult (.temps n m)).cjCount = some m := rfl
@[simp] theorem State.writeResult_temps_tcF20 (s : State) (n m : Count) : (s.writeResult (.temps n m)).tcF20 = some (tcFahrenheit n) := rfl
@[simp] theorem State.writeResult_temps_cjF80 (s : State) (n m : Count) : (s.writeResult (.temps n m)).cjF80 = some (cjFahrenheit m) := rfl
@[simp] theorem State.writeResult_temps_rsp (s : State) (n m : Count) : (s.writeResult (.temps n m)).rsp = s.rsp := rfl
@[simp] theorem State.writeResult_temps_env (s : State) (n m : Count) : (s.writeResult (.temps n m)).env = s.env := rfl
@[simp] theorem State.writeResult_temps_draws (s : State) (n m : Count) : (s.writeResult (.temps n m)).draws = s.draws := rfl

/-! ### Fields after WriteResult of a fault code (41 R163) -/

@[simp] theorem State.writeResult_fault_cfg (s : State) (c : FaultCode) : (s.writeResult (.fault c)).cfg = s.cfg := rfl
@[simp] theorem State.writeResult_fault_phase (s : State) (c : FaultCode) : (s.writeResult (.fault c)).phase = s.phase := rfl
@[simp] theorem State.writeResult_fault_csN (s : State) (c : FaultCode) : (s.writeResult (.fault c)).csN = s.csN := rfl
@[simp] theorem State.writeResult_fault_sck (s : State) (c : FaultCode) : (s.writeResult (.fault c)).sck = s.sck := rfl
@[simp] theorem State.writeResult_fault_shift (s : State) (c : FaultCode) : (s.writeResult (.fault c)).shift = s.shift := rfl
@[simp] theorem State.writeResult_fault_bitcnt (s : State) (c : FaultCode) : (s.writeResult (.fault c)).bitcnt = s.bitcnt := rfl
@[simp] theorem State.writeResult_fault_timer (s : State) (c : FaultCode) : (s.writeResult (.fault c)).timer = s.timer := rfl
@[simp] theorem State.writeResult_fault_clkTime (s : State) (c : FaultCode) : (s.writeResult (.fault c)).clkTime = s.clkTime := rfl
@[simp] theorem State.writeResult_fault_edgeTime (s : State) (c : FaultCode) : (s.writeResult (.fault c)).edgeTime = s.edgeTime := rfl
@[simp] theorem State.writeResult_fault_rawframe (s : State) (c : FaultCode) : (s.writeResult (.fault c)).rawframe = s.rawframe := rfl
@[simp] theorem State.writeResult_fault_rawValid (s : State) (c : FaultCode) : (s.writeResult (.fault c)).rawValid = s.rawValid := rfl
@[simp] theorem State.writeResult_fault_status (s : State) (c : FaultCode) : (s.writeResult (.fault c)).status = s.status := rfl
@[simp] theorem State.writeResult_fault_resValid (s : State) (c : FaultCode) : (s.writeResult (.fault c)).resValid = true := rfl
@[simp] theorem State.writeResult_fault_fault (s : State) (c : FaultCode) : (s.writeResult (.fault c)).fault = some c := rfl
@[simp] theorem State.writeResult_fault_tempValid (s : State) (c : FaultCode) : (s.writeResult (.fault c)).tempValid = false := rfl
@[simp] theorem State.writeResult_fault_tcCount (s : State) (c : FaultCode) : (s.writeResult (.fault c)).tcCount = none := rfl
@[simp] theorem State.writeResult_fault_cjCount (s : State) (c : FaultCode) : (s.writeResult (.fault c)).cjCount = none := rfl
@[simp] theorem State.writeResult_fault_tcF20 (s : State) (c : FaultCode) : (s.writeResult (.fault c)).tcF20 = none := rfl
@[simp] theorem State.writeResult_fault_cjF80 (s : State) (c : FaultCode) : (s.writeResult (.fault c)).cjF80 = none := rfl
@[simp] theorem State.writeResult_fault_rsp (s : State) (c : FaultCode) : (s.writeResult (.fault c)).rsp = s.rsp := rfl
@[simp] theorem State.writeResult_fault_env (s : State) (c : FaultCode) : (s.writeResult (.fault c)).env = s.env := rfl
@[simp] theorem State.writeResult_fault_draws (s : State) (c : FaultCode) : (s.writeResult (.fault c)).draws = s.draws := rfl

/-! ### Fields that a result or a completed decode does not write (41 R160, R161) -/

@[simp] theorem State.writeResult_cfg (s : State) (r : Decoded) : (s.writeResult r).cfg = s.cfg := by cases r <;> rfl
@[simp] theorem State.completeDecode_cfg (s : State) (r : Decoded) : (s.completeDecode r).cfg = s.cfg := by cases r <;> rfl
@[simp] theorem State.writeResult_phase (s : State) (r : Decoded) : (s.writeResult r).phase = s.phase := by cases r <;> rfl
@[simp] theorem State.completeDecode_phase (s : State) (r : Decoded) : (s.completeDecode r).phase = s.phase := by cases r <;> rfl
@[simp] theorem State.writeResult_csN (s : State) (r : Decoded) : (s.writeResult r).csN = s.csN := by cases r <;> rfl
@[simp] theorem State.completeDecode_csN (s : State) (r : Decoded) : (s.completeDecode r).csN = s.csN := by cases r <;> rfl
@[simp] theorem State.writeResult_sck (s : State) (r : Decoded) : (s.writeResult r).sck = s.sck := by cases r <;> rfl
@[simp] theorem State.completeDecode_sck (s : State) (r : Decoded) : (s.completeDecode r).sck = s.sck := by cases r <;> rfl
@[simp] theorem State.writeResult_shift (s : State) (r : Decoded) : (s.writeResult r).shift = s.shift := by cases r <;> rfl
@[simp] theorem State.completeDecode_shift (s : State) (r : Decoded) : (s.completeDecode r).shift = s.shift := by cases r <;> rfl
@[simp] theorem State.writeResult_bitcnt (s : State) (r : Decoded) : (s.writeResult r).bitcnt = s.bitcnt := by cases r <;> rfl
@[simp] theorem State.completeDecode_bitcnt (s : State) (r : Decoded) : (s.completeDecode r).bitcnt = s.bitcnt := by cases r <;> rfl
@[simp] theorem State.writeResult_timer (s : State) (r : Decoded) : (s.writeResult r).timer = s.timer := by cases r <;> rfl
@[simp] theorem State.completeDecode_timer (s : State) (r : Decoded) : (s.completeDecode r).timer = s.timer := by cases r <;> rfl
@[simp] theorem State.writeResult_clkTime (s : State) (r : Decoded) : (s.writeResult r).clkTime = s.clkTime := by cases r <;> rfl
@[simp] theorem State.completeDecode_clkTime (s : State) (r : Decoded) : (s.completeDecode r).clkTime = s.clkTime := by cases r <;> rfl
@[simp] theorem State.writeResult_edgeTime (s : State) (r : Decoded) : (s.writeResult r).edgeTime = s.edgeTime := by cases r <;> rfl
@[simp] theorem State.completeDecode_edgeTime (s : State) (r : Decoded) : (s.completeDecode r).edgeTime = s.edgeTime := by cases r <;> rfl
@[simp] theorem State.writeResult_rawframe (s : State) (r : Decoded) : (s.writeResult r).rawframe = s.rawframe := by cases r <;> rfl
@[simp] theorem State.completeDecode_rawframe (s : State) (r : Decoded) : (s.completeDecode r).rawframe = s.rawframe := by cases r <;> rfl
@[simp] theorem State.writeResult_rawValid (s : State) (r : Decoded) : (s.writeResult r).rawValid = s.rawValid := by cases r <;> rfl
@[simp] theorem State.completeDecode_rawValid (s : State) (r : Decoded) : (s.completeDecode r).rawValid = s.rawValid := by cases r <;> rfl
@[simp] theorem State.writeResult_status (s : State) (r : Decoded) : (s.writeResult r).status = s.status := by cases r <;> rfl
@[simp] theorem State.completeDecode_status (s : State) (r : Decoded) : (s.completeDecode r).status = s.status := by cases r <;> rfl
@[simp] theorem State.writeResult_rsp (s : State) (r : Decoded) : (s.writeResult r).rsp = s.rsp := by cases r <;> rfl
@[simp] theorem State.completeDecode_rsp (s : State) (r : Decoded) : (s.completeDecode r).rsp = some ⟨.ok, none⟩ := by cases r <;> rfl
@[simp] theorem State.writeResult_env (s : State) (r : Decoded) : (s.writeResult r).env = s.env := by cases r <;> rfl
@[simp] theorem State.completeDecode_env (s : State) (r : Decoded) : (s.completeDecode r).env = s.env.tail := by cases r <;> rfl
@[simp] theorem State.writeResult_draws (s : State) (r : Decoded) : (s.writeResult r).draws = s.draws := by cases r <;> rfl
@[simp] theorem State.completeDecode_draws (s : State) (r : Decoded) : (s.completeDecode r).draws = s.draws + 1 := by cases r <;> rfl

/-! ### A completed decode whose result is known (41 R162, R163) -/

/-- What is left of a completed decode is the result written on the passed step, and the response. -/
theorem State.completeDecode_eq (s : State) (r : Decoded) :
    s.completeDecode r = (s.pass.writeResult r).respond .ok none := rfl

/-! ### Fields after a reset (70 R241): every register at its reset value -/

@[simp] theorem State.onReset_cfg (s : State) : s.onReset.cfg = s.cfg := rfl
@[simp] theorem State.onReset_phase (s : State) : s.onReset.phase = State.reset.phase := rfl
@[simp] theorem State.onReset_csN (s : State) : s.onReset.csN = State.reset.csN := rfl
@[simp] theorem State.onReset_sck (s : State) : s.onReset.sck = State.reset.sck := rfl
@[simp] theorem State.onReset_shift (s : State) : s.onReset.shift = State.reset.shift := rfl
@[simp] theorem State.onReset_bitcnt (s : State) : s.onReset.bitcnt = State.reset.bitcnt := rfl
@[simp] theorem State.onReset_timer (s : State) : s.onReset.timer = State.reset.timer := rfl
@[simp] theorem State.onReset_clkTime (s : State) : s.onReset.clkTime = State.reset.clkTime := rfl
@[simp] theorem State.onReset_edgeTime (s : State) : s.onReset.edgeTime = State.reset.edgeTime := rfl
@[simp] theorem State.onReset_rawframe (s : State) : s.onReset.rawframe = State.reset.rawframe := rfl
@[simp] theorem State.onReset_rawValid (s : State) : s.onReset.rawValid = State.reset.rawValid := rfl
@[simp] theorem State.onReset_status (s : State) : s.onReset.status = State.reset.status := rfl
@[simp] theorem State.onReset_resValid (s : State) : s.onReset.resValid = State.reset.resValid := rfl
@[simp] theorem State.onReset_fault (s : State) : s.onReset.fault = State.reset.fault := rfl
@[simp] theorem State.onReset_tempValid (s : State) : s.onReset.tempValid = State.reset.tempValid := rfl
@[simp] theorem State.onReset_tcCount (s : State) : s.onReset.tcCount = State.reset.tcCount := rfl
@[simp] theorem State.onReset_cjCount (s : State) : s.onReset.cjCount = State.reset.cjCount := rfl
@[simp] theorem State.onReset_tcF20 (s : State) : s.onReset.tcF20 = State.reset.tcF20 := rfl
@[simp] theorem State.onReset_cjF80 (s : State) : s.onReset.cjF80 = State.reset.cjF80 := rfl
@[simp] theorem State.onReset_rsp (s : State) : s.onReset.rsp = State.reset.rsp := rfl
@[simp] theorem State.onReset_env (s : State) : s.onReset.env = s.env.tail := rfl
@[simp] theorem State.onReset_draws (s : State) : s.onReset.draws = s.draws + 1 := rfl

end Sys2Proof.Machine
end

