-- ==== Sys2Proof/Laws/Step.lean ====
section
/-!
SUPPORT. What a step can do, said once: the inputs it reads, the cases of each sequencer step, and the
cases of the step itself. Proofs about runs and invariants split on these.
-/

namespace Sys2Proof.Machine

/-- The inputs laid down are the ones read. -/
@[simp] theorem State.inputs_cons (s : State) (i : Inputs) (l : List Inputs) (h : s.env = i :: l) :
    s.inputs = i := by
  simp [State.inputs, h]

/-- With nothing laid down the inputs are free values (log 3). -/
@[simp] theorem State.inputs_nil (s : State) (h : s.env = []) : s.inputs = Inputs.free s.draws := by
  simp [State.inputs, h]

/-- The phases in which a command is in progress (20 R62). -/
theorem State.busy_iff (s : State) :
    s.busy = true ↔ s.phase = .pwrup ∨ s.phase = .trig ∨ s.phase = .settle ∨ s.phase = .read := by
  unfold State.busy
  cases s.phase <;> simp

/-- Between commands the phase is P_OFF or P_IDLE (20 R62). -/
theorem State.not_busy_iff (s : State) : s.busy = false ↔ s.phase = .off ∨ s.phase = .idle := by
  unfold State.busy
  cases s.phase <;> simp

/-- A wait goes on, or it has lasted at least its bound and ends (70 R251). -/
theorem State.waitStep_cases (bound : Nat) (done : State → State) (s : State) :
    (s.inputs.proceed = true ∧ bound ≤ s.timer + s.inputs.elapsed ∧ s.waitStep bound done = done s.pass) ∨
    s.waitStep bound done = s.passTime := by
  unfold State.waitStep
  split
  next h => exact .inl ⟨h.1, h.2, rfl⟩
  next => exact .inr rfl

/-- A wait that has lasted its bound ends when the environment lets it (70 R251). -/
theorem State.waitStep_done {bound : Nat} (done : State → State) (s : State)
    (hp : s.inputs.proceed = true) (hb : bound ≤ s.timer + s.inputs.elapsed) :
    s.waitStep bound done = done s.pass := by
  simp [State.waitStep, hp, hb]

/-- The next bit is due: what has passed since the select edge, or since the rising edge before (log 21). -/
theorem State.bitDue_iff (s : State) :
    s.bitDue = true ↔
      (s.bitcnt = 0#6 → s.cfg.tCsLead ≤ s.edgeTime + s.inputs.elapsed) ∧
      (s.bitcnt ≠ 0#6 → 1000000000 ≤ (s.clkTime + s.inputs.elapsed) * s.cfg.fSck) := by
  unfold State.bitDue periodOver
  split <;> simp_all

/-- The release is due: a whole clock period and `T_CS_LAG` have passed (log 21). -/
theorem State.releaseDue_iff (s : State) :
    s.releaseDue = true ↔
      1000000000 ≤ (s.clkTime + s.inputs.elapsed) * s.cfg.fSck ∧
      s.cfg.tCsLag ≤ s.edgeTime + s.inputs.elapsed := by
  simp [State.releaseDue, periodOver]

/-- Within its bound the clock samples the level of `SO` (70 R254). -/
theorem State.sampledBit_of_le (s : State) (h : s.cfg.fSck ≤ 5000000) : s.sampledBit = s.inputs.so := by
  simp [State.sampledBit, h]

/-- The cases of a step in P_READ: the frame is complete, the clock falls, the bus fails, the clock
rises, or the edge is not due and time passes (40 R109 to R111, log 21). -/
theorem State.readStep_cases (s : State) :
    (s.bitcnt = 32#6 ∧ s.releaseDue = true ∧ s.readStep = s.pass.stepTR5) ∨
    (s.bitcnt < 32#6 ∧ s.sck = true ∧
      s.readStep = s.passClock.stepTR4Fall (Config.freeShift s.draws) s.sampledBit) ∨
    (s.bitcnt < 32#6 ∧ s.sck = false ∧ s.bitDue = true ∧ s.inputs.busFail = true ∧
      s.readStep = s.pass.raise .busError) ∨
    (s.bitcnt < 32#6 ∧ s.sck = false ∧ s.bitDue = true ∧ s.inputs.busFail = false ∧
      s.readStep = s.pass.stepTR4Rise) ∨
    s.readStep = s.passClock := by
  unfold State.readStep
  split
  next h =>
    split
    next hd => exact .inl ⟨h, hd, rfl⟩
    next => exact .inr (.inr (.inr (.inr rfl)))
  next =>
    split
    next hlt =>
      split
      next hs => exact .inr (.inl ⟨hlt, hs, rfl⟩)
      next hs =>
        have hs' : s.sck = false := by simpa using hs
        split
        next hd =>
          split
          next hf => exact .inr (.inr (.inl ⟨hlt, hs', hd, hf, rfl⟩))
          next hf => exact .inr (.inr (.inr (.inl ⟨hlt, hs', hd, by simpa using hf, rfl⟩)))
        next => exact .inr (.inr (.inr (.inr rfl)))
    next => exact .inr (.inr (.inr (.inr rfl)))

/-- The cases of a step: reset, the sequencer's step while a command is in progress, the command
offered between commands, or nothing. -/
theorem step_cases {s t : State} (h : step s = .next t) :
    (s.inputs.rst = true ∧ t = s.onReset) ∨
    (s.inputs.rst = false ∧ s.busy = true ∧ t = s.sequence) ∨
    (s.inputs.rst = false ∧ s.busy = false ∧ ∃ i, s.offered = some i ∧ exec i s = .next t) ∨
    (s.inputs.rst = false ∧ s.busy = false ∧ s.offered = none ∧ t = s.pass) := by
  unfold step at h
  split at h
  next hr => exact .inl ⟨hr, by cases h; rfl⟩
  next hr =>
    have hr' : s.inputs.rst = false := by simpa using hr
    split at h
    next hb => exact .inr (.inl ⟨hr', hb, by cases h; rfl⟩)
    next hb =>
      have hb' : s.busy = false := by simpa using hb
      split at h
      next i ho => exact .inr (.inr (.inl ⟨hr', hb', i, ho, h⟩))
      next ho =>
        refine .inr (.inr (.inr ⟨hr', hb', ho, ?_⟩))
        cases h
        unfold State.sequence
        rcases (State.not_busy_iff s).1 hb' with hp | hp <;> rw [hp]

/-- The cases of INIT: accepted with the bus available, accepted without it, not accepted (40 R101). -/
theorem exec_init_cases {arg : BitVec 32} {s t : State} (h : exec (.init arg) s = .next t) :
    (s.phase = .off ∧ s.inputs.busAvail = true ∧ t = s.pass.stepIN1) ∨
    (s.phase = .off ∧ s.inputs.busAvail = false ∧ t = s.pass.raise .initError) ∨
    (s.phase ≠ .off ∧ t = s.pass) := by
  simp only [exec, execInit, Host.Outcome.next.injEq] at h
  by_cases hp : s.phase = .off
  · cases hb : s.inputs.busAvail
    · exact .inr (.inl ⟨hp, rfl, by simpa [State.cmdReady, hp, hb] using h.symm⟩)
    · exact .inl ⟨hp, rfl, by simpa [State.cmdReady, hp, hb] using h.symm⟩
  · exact .inr (.inr ⟨hp, by simpa [State.cmdReady, hp] using h.symm⟩)

/-- The cases of TRIGREAD: accepted, not accepted (40 R105). -/
theorem exec_trigread_cases {arg : BitVec 32} {s t : State} (h : exec (.trigread arg) s = .next t) :
    (s.phase = .idle ∧ t = s.pass.stepTR1) ∨ (s.phase ≠ .idle ∧ t = s.pass) := by
  simp only [exec, execTrigread, Host.Outcome.next.injEq] at h
  by_cases hp : s.phase = .idle
  · exact .inl ⟨hp, by simpa [State.cmdReady, hp] using h.symm⟩
  · exact .inr ⟨hp, by simpa [State.cmdReady, hp] using h.symm⟩

/-- The cases of DECODE: accepted with the frame register's frame, or not accepted (41 R160). -/
theorem exec_decode_cases {arg : BitVec 32} {s t : State} (h : exec (.decode arg) s = .next t) :
    (∃ f, s.rawValid = true ∧ s.rawframe = some f ∧
      t = s.completeDecode (decodeReading s.cfg.signPos f)) ∨ t = s.pass := by
  simp only [exec, execDecode, Host.Outcome.next.injEq] at h
  split at h
  next hr =>
    split at h
    next f hf =>
      simp only [State.cmdReady, Bool.and_eq_true] at hr
      exact .inl ⟨f, hr.2, hf, h.symm⟩
    next => exact .inr h.symm
  next => exact .inr h.symm

/-- The cases of DECODEI: accepted, not accepted (41 R161). -/
theorem exec_decodei_cases {f : Frame} {s t : State} (h : exec (.decodei f) s = .next t) :
    t = s.completeDecode (decodeReading s.cfg.signPos f) ∨ t = s.pass := by
  simp only [exec, execDecodei, Host.Outcome.next.injEq] at h
  split at h
  next => exact .inl h.symm
  next => exact .inr h.symm

/-- Only commands are offered on the command port; a frame never is (30 R80). -/
theorem State.offered_command {s : State} {i : Instr} (h : s.offered = some i) :
    (∃ arg, i = .init arg) ∨ (∃ arg, i = .trigread arg) ∨ (∃ arg, i = .decode arg) ∨ ∃ f, i = .decodei f := by
  unfold State.offered at h
  split at h
  · cases h
    unfold decodeCommand
    split
    · exact .inl ⟨_, rfl⟩
    · exact .inr (.inl ⟨_, rfl⟩)
    · exact .inr (.inr (.inl ⟨_, rfl⟩))
    · exact .inr (.inr (.inr ⟨_, rfl⟩))
  · cases h

/-- Everything a step can do, one constructor per step rule of the spec. -/
inductive Transition (s : State) : State → Prop where
  /-- 70 R240. -/
  | reset : s.inputs.rst = true → Transition s s.onReset
  /-- 40 R102. -/
  | stepIN1 (arg : BitVec 32) : s.inputs.rst = false → s.phase = .off → s.inputs.busAvail = true →
      s.offered = some (.init arg) → Transition s s.pass.stepIN1
  /-- 40 R104. -/
  | stepINE (arg : BitVec 32) : s.inputs.rst = false → s.phase = .off → s.inputs.busAvail = false →
      s.offered = some (.init arg) → Transition s (s.pass.raise .initError)
  /-- 40 R103. -/
  | stepIN2 : s.inputs.rst = false → s.phase = .pwrup → s.inputs.proceed = true →
      s.cfg.tPowerup ≤ s.timer + s.inputs.elapsed → Transition s s.pass.stepIN2
  /-- 40 R106. -/
  | stepTR1 (arg : BitVec 32) : s.inputs.rst = false → s.phase = .idle →
      s.offered = some (.trigread arg) → Transition s s.pass.stepTR1
  /-- 40 R107. -/
  | stepTR2 : s.inputs.rst = false → s.phase = .trig → s.inputs.proceed = true →
      s.cfg.tTrig ≤ s.timer + s.inputs.elapsed → Transition s s.pass.stepTR2
  /-- 40 R108. -/
  | stepTR3 : s.inputs.rst = false → s.phase = .settle → s.inputs.proceed = true →
      s.cfg.tSettle ≤ s.timer + s.inputs.elapsed → s.inputs.busFail = false →
      Transition s s.pass.stepTR3
  /-- 40 R109, the rising edge. -/
  | stepTR4Rise : s.inputs.rst = false → s.phase = .read → s.inputs.proceed = true →
      s.bitcnt < 32#6 → s.sck = false → s.bitDue = true → s.inputs.busFail = false →
      Transition s s.pass.stepTR4Rise
  /-- 40 R109, the falling edge. -/
  | stepTR4Fall : s.inputs.rst = false → s.phase = .read → s.inputs.proceed = true →
      s.bitcnt < 32#6 → s.sck = true →
      Transition s (s.passClock.stepTR4Fall (Config.freeShift s.draws) s.sampledBit)
  /-- 40 R110. -/
  | stepTR5 : s.inputs.rst = false → s.phase = .read → s.inputs.proceed = true →
      s.bitcnt = 32#6 → s.releaseDue = true → Transition s s.pass.stepTR5
  /-- 40 R111. -/
  | stepTRE : s.inputs.rst = false → s.inputs.proceed = true → s.inputs.busFail = true →
      s.phase = .settle ∧ s.cfg.tSettle ≤ s.timer + s.inputs.elapsed ∨
        s.phase = .read ∧ s.bitcnt < 32#6 ∧ s.sck = false ∧ s.bitDue = true →
      Transition s (s.pass.raise .busError)
  /-- 70 R251: a wait goes on. -/
  | waits : s.inputs.rst = false → s.phase = .pwrup ∨ s.phase = .trig ∨ s.phase = .settle →
      Transition s s.passTime
  /-- 41 R160, R161. -/
  | decodes (f : Frame) : s.inputs.rst = false → s.phase = .off ∨ s.phase = .idle →
      s.offered = some (.decodei f) ∨
        s.rawValid = true ∧ s.rawframe = some f ∧ (∃ arg, s.offered = some (.decode arg)) →
      Transition s (s.completeDecode (decodeReading s.cfg.signPos f))
  /-- 70 R254, R256, R258: in P_READ the next edge is not due, or the sequencer is held. -/
  | clockWaits : s.inputs.rst = false → s.phase = .read → Transition s s.passClock
  /-- 42 R183, 60 R207: no command is offered or accepted. -/
  | passes : s.inputs.rst = false → s.phase = .off ∨ s.phase = .idle → Transition s s.pass

/-- The sequencer's step, while a command is in progress, is one of the step rules. -/
theorem sequence_transition {s : State} (hr : s.inputs.rst = false) (hb : s.busy = true) :
    Transition s s.sequence := by
  unfold State.sequence
  rcases (State.busy_iff s).1 hb with hp | hp | hp | hp <;> rw [hp] <;> simp only
  · rcases State.waitStep_cases s.cfg.tPowerup State.stepIN2 s with ⟨h1, h2, e⟩ | e <;> rw [e]
    · exact .stepIN2 hr hp h1 h2
    · exact .waits hr (.inl hp)
  · rcases State.waitStep_cases s.cfg.tTrig State.stepTR2 s with ⟨h1, h2, e⟩ | e <;> rw [e]
    · exact .stepTR2 hr hp h1 h2
    · exact .waits hr (.inr (.inl hp))
  · rcases State.waitStep_cases s.cfg.tSettle (State.settled s.inputs.busFail) s with ⟨h1, h2, e⟩ | e <;> rw [e]
    · cases hf : s.inputs.busFail
      · exact .stepTR3 hr hp h1 h2 hf
      · exact .stepTRE hr h1 hf (.inl ⟨hp, h2⟩)
    · exact .waits hr (.inr (.inr hp))
  · split
    next h1 =>
      rcases State.readStep_cases s with
        ⟨h, hd, e⟩ | ⟨h, hk, e⟩ | ⟨h, hk, hd, hf, e⟩ | ⟨h, hk, hd, hf, e⟩ | e <;> rw [e]
      · exact .stepTR5 hr hp h1 h hd
      · exact .stepTR4Fall hr hp h1 h hk
      · exact .stepTRE hr h1 hf (.inr ⟨hp, h, hk, hd⟩)
      · exact .stepTR4Rise hr hp h1 h hk hd hf
      · exact .clockWaits hr hp
    next => exact .clockWaits hr hp

/-- Every step is one of the step rules of the spec. -/
theorem step_transition {s t : State} (h : step s = .next t) : Transition s t := by
  rcases step_cases h with ⟨hr, rfl⟩ | ⟨hr, hb, rfl⟩ | ⟨hr, hb, i, ho, he⟩ | ⟨hr, hb, -, rfl⟩
  · exact .reset hr
  · exact sequence_transition hr hb
  · have hph := (State.not_busy_iff s).1 hb
    have hpass : Transition s s.pass := .passes hr hph
    rcases State.offered_command ho with ⟨arg, rfl⟩ | ⟨arg, rfl⟩ | ⟨arg, rfl⟩ | ⟨f, rfl⟩
    · rcases exec_init_cases he with ⟨hp, hv, rfl⟩ | ⟨hp, hv, rfl⟩ | ⟨-, rfl⟩
      · exact .stepIN1 arg hr hp hv ho
      · exact .stepINE arg hr hp hv ho
      · exact hpass
    · rcases exec_trigread_cases he with ⟨hp, rfl⟩ | ⟨-, rfl⟩
      · exact .stepTR1 arg hr hp ho
      · exact hpass
    · rcases exec_decode_cases he with ⟨f, hv, hf, rfl⟩ | rfl
      · exact .decodes f hr hph (.inr ⟨hv, hf, arg, ho⟩)
      · exact hpass
    · rcases exec_decodei_cases he with rfl | rfl
      · exact .decodes f hr hph (.inl ho)
      · exact hpass
  · exact .passes hr ((State.not_busy_iff s).1 hb)

end Sys2Proof.Machine
end

