-- ==== Sys2Proof/Tests/Slice0.lean ====
section
/-!
SUPPORT. Small tests, each with the place of spec/ its expected result comes from (95 is
95_test_vectors.md), and for each statement with hypotheses a witness that meets them.
-/

namespace Sys2Proof.Tests

open Sys2Proof.Machine

/-! ### Well-formedness: an ill-formed term for each check -/

/-- 30 R74: the all-zero frame is `ReadFailure`, so no `FRAME.Ok` term stands for it. -/
theorem test_illformed_zero_ok_frame : (Instr.frameOk ⟨0, 0, 0, 0, 0, 0⟩ 0).wellFormed = false := by decide

theorem test_wellformed_ok_frame_with_one_bit : (Instr.frameOk ⟨0, 0, 0, 0, 0, 0⟩ 1).wellFormed = true := by
  decide

/-- 00 R8: `T_TRIG` is at least 1 µs. -/
theorem test_illformed_short_trigger : ({ tTrig := 999 } : Config).wellFormed = false := by decide

/-- 00 R8: `F_SCK` is at most 5 MHz. -/
theorem test_illformed_fast_clock : ({ fSck := 5000001 } : Config).wellFormed = false := by decide

/-- 00 R8: `F_SCK` is a rate. -/
theorem test_illformed_no_clock : ({ fSck := 0 } : Config).wellFormed = false := by decide

theorem test_wellformed_fastest_clock : ({ fSck := 5000000 } : Config).wellFormed = true := by decide

theorem test_wellformed_default_config : ({} : Config).wellFormed = true := by decide

/-! ### Decoding: a word written out for every constructor -/

/-- 30 R80: `op` 00, every `arg` bit 0 but the top one. -/
theorem test_decode_init :
    decodeCommand 0b0010000000000000000000000000000000#34 = .init 0x80000000 := by decide

/-- 30 R80: `op` 01. -/
theorem test_decode_trigread :
    decodeCommand 0b0100000000000000000000000000000001#34 = .trigread 1 := by decide

/-- 30 R80: `op` 10. -/
theorem test_decode_decode :
    decodeCommand 0b1000000000000000000000000000000000#34 = .decode 0 := by decide

/-- 30 R80, R87: `op` 11, `3:064C6490`. -/
theorem test_decode_decodei :
    decodeCommand 0b1100000110010011000110010010010000#34 = .decodei 0x064C6490 := by decide

/-- 30 R73 row 1. -/
theorem test_decode_readFailure : decodeFrame 0b00000000000000000000000000000000#32 = .frameReadFailure := by
  decide

/-- 30 R73 row 2; 95 V30: every bit set. -/
theorem test_decode_shortToVcc :
    decodeFrame 0b11111111111111111111111111111111#32 =
      .frameShortToVcc ⟨1, 0x1FFF, 1, 1, 0x7FF, 1⟩ 1 1 := by decide

/-- 30 R73 row 3; 95 V25: bit 1 over bit 0. -/
theorem test_decode_shortToGnd :
    decodeFrame 0b00000000000000010000000000000011#32 = .frameShortToGnd ⟨0, 0, 0, 0, 0, 0⟩ 1 := by decide

/-- 30 R73 row 4; 95 V32. -/
theorem test_decode_openCircuit :
    decodeFrame 0b00000110010011010110010010010001#32 = .frameOpenCircuit ⟨0, 0x193, 0, 0, 0x649, 0⟩ := by
  decide

/-- 30 R73 row 5; 95 V33: bits 17 and 3 set. -/
theorem test_decode_unknown :
    decodeFrame 0b00000000000000110000000000001000#32 = .frameUnknown ⟨0, 0, 1, 0, 0, 1⟩ := by decide

/-- 30 R73 row 6; 95 V14: bits 17, 3, 2 to 0 set. -/
theorem test_decode_ok :
    decodeFrame 0b00000000000000100000000000001111#32 = .frameOk ⟨0, 0, 1, 0, 0, 1⟩ 7 := by decide

/-- 20 R53; 95 B7: bytes `0x12`, `0x34`, `0x56`, `0x78`. -/
theorem test_frame_of_bytes : frameOfBytes 0x12 0x34 0x56 0x78 = 0x12345678#32 := by decide

/-- 30 R80: a command word has 34 bits. -/
theorem test_table_word_too_wide : decodeBits 40 0x400000000 = .error .commandTooWide := by decide

/-- 20 R51: a frame has 32 bits. -/
theorem test_frame_too_wide : decodeBits 32 0x100000000 = .error .frameTooWide := by decide

theorem test_table_words :
    decodeTableWord 40 0x100000000 = some (.trigread 0) ∧
    decodeTableWord 32 0x00010004 = some (.frameShortToVcc ⟨0, 0, 0, 0, 0, 0⟩ 0 0) := by decide

/-! ### The decoder's functions -/

/-- 95 X1, X13, X20. -/
theorem test_extract :
    extract 0x064C6490#32 18 13 = 0x193 ∧ extract 0x00020000#32 18 13 = 0 ∧
    extract 0x40000000#32 18 13 = 0x1000 := by decide

/-- 95 K2, K6, K14, K22, K28. -/
theorem test_signedCount :
    (signedCount 1 0x0000#13 0).toInt = -8192 ∧ (signedCount 1 0x0193#13 0).toInt = -7789 ∧
    (signedCount 1 0x1FFF#13 0).toInt = -1 ∧ (signedCount 1 0x649#11 0).toInt = -439 ∧
    (signedCount 1 0x7FF#11 0).toInt = -1 := by decide

/-- 95 F1, F12, G1, G12. -/
theorem test_fahrenheit :
    (tcFahrenheit (BitVec.ofInt 16 (-8192))).toInt = -73088 ∧ (tcFahrenheit 8191).toInt = 74359 ∧
    (cjFahrenheit (BitVec.ofInt 16 (-2048))).toInt = -15872 ∧ (cjFahrenheit 2047).toInt = 20983 := by decide

/-- 95 V1 under both polarities (T-A, T-B). -/
theorem test_decode_sample_vector :
    decodeReading 1 0x064C6490#32 = .temps (BitVec.ofInt 16 (-7789)) (BitVec.ofInt 16 (-439)) ∧
    decodeReading 0 0x064C6490#32 = .temps 403 1609 := by decide

/-- 95 RT1, RT2, RT4, RT6. -/
theorem test_encodeTemps :
    encodeTemps 1 403 1609 = 0x864CE490#32 ∧ encodeTemps 1 (-1) (-1) = 0x7FFC7FF0#32 ∧
    encodeTemps 1 (-8192) (-2048) = 0#32 ∧ encodeTemps 0 100 (-160) = 0x0190F600#32 := by decide

/-! ### One step of each instruction -/

/-- Inputs with nothing asserted but the environment's leave to proceed and the bus available. -/
def quiet : Inputs :=
  { rst := false, cmdValid := false, cmdWord := 0, busAvail := true, busFail := false, so := false
    proceed := true, elapsed := 0 }

/-- The same, a clock period of 1 MHz later (70 R260: 32 clock periods are 32 µs at 1 MHz). -/
def tick : Inputs := { quiet with elapsed := 1000 }

/-- The inputs of a step in which the host offers a command word. -/
def offering (w : CmdWord) : Inputs := { quiet with cmdValid := true, cmdWord := w }

/-- The reset state in a phase, with inputs laid down. -/
def inPhase (p : Phase) (env : List Inputs) : State := { State.reset with phase := p, env := env }

/-- The state after a step that answers one. -/
def after (o : Host.Outcome State Fault Refusal) : Option State :=
  match o with
  | .next t => some t
  | .fault _ => none
  | .refused _ => none

/-- 95 B14. -/
theorem test_init_accepted :
    (after (step (inPhase .off [offering 0x000000000]))).map (fun t => (t.phase, t.csN, t.status, t.rsp)) =
      some (.pwrup, true, .ok, none) := by decide

/-- 95 B15. -/
theorem test_init_error :
    (after (step (inPhase .off [{ offering 0x000000000 with busAvail := false }]))).map
      (fun t => (t.phase, t.status, t.rsp)) = some (.off, .initError, some ⟨.initError, none⟩) := by decide

/-- 40 R106. -/
theorem test_trigread_accepted :
    (after (step (inPhase .idle [offering 0x100000000]))).map (fun t => (t.phase, t.csN, t.sck)) =
      some (.trig, false, false) := by decide

/-- 95 A1: `TRIGREAD` in the reset state is refused. -/
theorem test_trigread_refused :
    after (step (inPhase .off [offering 0x100000000])) = some { State.reset with draws := 1 } := by decide

/-- 95 A2: `DECODE` in the reset state is refused. -/
theorem test_decode_refused :
    after (step (inPhase .off [offering 0x200000000])) = some { State.reset with draws := 1 } := by decide

/-- 41 R160: `RAWFRAME = 0x00010001` ends with `FAULT = OpenCircuit` (3). -/
theorem test_decode_rawframe :
    (after (step { inPhase .idle [offering 0x200000000] with rawframe := some 0x00010001, rawValid := true })).map
      (fun t => (t.outputs.fault, t.resValid, t.tempValid, t.rawframe)) =
      some (some 3#3, true, false, some 0x00010001#32) := by decide

/-- 95 W1, first command. -/
theorem test_decodei_ok :
    (after (step (inPhase .off [offering 0x3864CE490]))).map
      (fun t => (t.tcCount, t.cjCount, t.tcF20, t.cjF80)) =
      some (some 403#16, some 1609#16, some 4267#18, some 17041#16) := by decide

/-- 95 W1, second command: the old temperatures do not survive. -/
theorem test_decodei_fault_wipes :
    (after (step { inPhase .off [offering 0x300010001] with
      fault := some .ok, resValid := true, tempValid := true, tcCount := some 403 })).map
      (fun t => (t.fault, t.tempValid, t.tcCount)) = some (some .openCircuit, false, none) := by decide

/-- 95 A5: no command is accepted in P_SETTLE. -/
theorem test_busy_refuses :
    (after (step (inPhase .settle [offering 0x300010001]))).map (fun t => (t.phase, t.resValid)) =
      some (.settle, false) := by decide

/-- 95 V12: only bit 3 set. -/
theorem test_frame_ok :
    (after (exec (.frameOk ⟨0, 0, 0, 0, 0, 1⟩ 0) State.reset)).map (fun t => (t.tcF20, t.cjF80)) =
      some (some (BitVec.ofInt 18 (-73088)), some (BitVec.ofInt 16 (-15872))) := by decide

/-- 10 R34: the fault codes of the five other classes. -/
theorem test_frame_faults :
    [exec .frameReadFailure State.reset, exec (.frameShortToVcc FrameFields.zero 1 1) State.reset,
      exec (.frameShortToGnd FrameFields.zero 1) State.reset,
      exec (.frameOpenCircuit FrameFields.zero) State.reset,
      exec (.frameUnknown FrameFields.zero) State.reset].map
      (fun o => (after o).map (fun t => (t.outputs.fault, t.tempValid))) =
    [some (some 5#3, false), some (some 1#3, false), some (some 2#3, false), some (some 3#3, false),
      some (some 4#3, false)] := by decide

/-! ### One step of the sequencer -/

/-- 40 R107, at exactly `T_TRIG`. -/
theorem test_trigger_ends :
    (after (step (inPhase .trig [{ quiet with elapsed := 1000 }]))).map (fun t => (t.phase, t.csN)) =
      some (.settle, true) := by decide

/-- 70 R252, one nanosecond earlier. -/
theorem test_trigger_holds :
    (after (step (inPhase .trig [{ quiet with elapsed := 999 }]))).map (fun t => (t.phase, t.timer)) =
      some (.trig, 999) := by decide

/-- 95 B8. -/
theorem test_failure_at_settle :
    (after (step { inPhase .settle [{ quiet with busFail := true }] with timer := 100000000 })).map
      (fun t => (t.phase, t.csN, t.status, t.rawValid)) = some (.idle, true, .busError, false) := by decide

/-- 95 B10, the failing step. -/
theorem test_failure_at_bit_17 :
    (after (step { inPhase .read [{ tick with busFail := true }] with
      csN := false, bitcnt := 17, shift := some 0x10C99 })).map
      (fun t => (t.status, t.shift, t.bitcnt)) = some (.busError, none, 17#6) := by decide

/-- 40 R109: the sampled bit enters at bit 0. -/
theorem test_bit_sampled :
    (after (step { inPhase .read [{ quiet with so := true }] with
      csN := false, sck := true, bitcnt := 31, shift := some 0xC0000000 })).map
      (fun t => (t.shift, t.bitcnt, t.sck)) = some (some 0x80000001#32, 32#6, false) := by decide

/-- 95 B1, the last step, and B12: no failure once BITCNT is 32. -/
theorem test_frame_delivered :
    (after (step { inPhase .read [{ tick with busFail := true }] with
      csN := false, bitcnt := 32, shift := some 0x864CE490 })).map
      (fun t => (t.rawframe, t.rawValid, t.status, t.shift)) =
      some (some 0x864CE490#32, true, .ok, none) := by decide

/-- 70 R260: a clock period is 200 ns at 5 MHz, so the next rising edge does not come after 199. -/
theorem test_clock_bound :
    (after (step { inPhase .read [{ quiet with elapsed := 199 }] with
      cfg := { fSck := 5000000 }, csN := false, bitcnt := 1, shift := some 1 })).map (fun t => t.sck) =
      some false ∧
    (after (step { inPhase .read [{ quiet with elapsed := 200 }] with
      cfg := { fSck := 5000000 }, csN := false, bitcnt := 1, shift := some 1 })).map (fun t => t.sck) =
      some true := by decide

/-- 70 R258: the first edge of the clock waits for `T_CS_LEAD`, the release for `T_CS_LAG`. -/
theorem test_select_spacing :
    (after (step { inPhase .read [{ quiet with elapsed := 49 }] with
      cfg := { tCsLead := 50 }, csN := false })).map (fun t => (t.sck, t.edgeTime)) = some (false, 49) ∧
    (after (step { inPhase .read [{ quiet with elapsed := 49 }] with
      cfg := { tCsLag := 50 }, csN := false, bitcnt := 32, clkTime := 1000, shift := some 1 })).map
      (fun t => t.csN) = some false := by decide

/-- 95 A8: reset in the middle of a bit. -/
theorem test_reset_in_read :
    after (step { inPhase .read [{ quiet with rst := true }] with
      csN := false, sck := true, bitcnt := 9, shift := some 3 }) = some { State.reset with draws := 1 } := by decide

/-- 10 R42 and 95 P1: the reading of 403 and 1609 counts. -/
theorem test_reading :
    ({ State.reset with
        fault := some .ok, resValid := true, tempValid := true
        tcCount := some 403, cjCount := some 1609, tcF20 := some 4267, cjF80 := some 17041 }).reading =
      some ⟨.ok, some (10075 / 100), some (21335 / 100), some (1005625 / 10000), some (2130125 / 10000)⟩ := by
  have a : (403 : BitVec 16).toInt = 403 := by decide
  have b : (1609 : BitVec 16).toInt = 1609 := by decide
  have c : (4267 : BitVec 18).toInt = 4267 := by decide
  have d : (17041 : BitVec 16).toInt = 17041 := by decide
  norm_num [State.reading, State.reset, a, b, c, d]

/-! ### Witnesses: for each statement with hypotheses, values that meet them together -/

theorem test_witness_DecodeOfEncodeIsTheInstruction :
    (Instr.frameOk ⟨0, 0, 0, 0, 0, 1⟩ 0).wellFormed = true := by decide

theorem test_witness_FrameRowsOverlapOnlyAtZero :
    (frameRow .readFailure).covers 0 = true ∧ (frameRow .ok).covers 0 = true ∧
    (frameRow .shortToGnd).covers 0x00010003 = true ∧ (0x00010007#32).getLsbD 16 = true := by decide

theorem test_witness_ExtractIsolatesItsBits :
    1 ≤ 32 ∧ 0 + 32 ≤ 32 ∧ 1 ≤ 1 ∧ 31 + 1 ≤ 32 ∧
    ∀ i : Fin 32, 18 ≤ i.val → i.val < 18 + 13 →
      (0xFFFC0000#32).getLsbD i = (0x7FFC0000#32).getLsbD i := by decide

theorem test_witness_SignedCountClosedForm :
    (-2 ^ 13 : Int) ≤ -8192 ∧ (-8192 : Int) < 2 ^ 13 ∧ (-2 ^ 11 : Int) ≤ 2047 ∧ (2047 : Int) < 2 ^ 11 := by
  decide

theorem test_witness_FahrenheitIsExact :
    (-8192 ≤ (BitVec.ofInt 16 (-8192)).toInt ∧ (BitVec.ofInt 16 (-8192)).toInt ≤ 8191) ∧
    (-8192 ≤ (8191#16).toInt ∧ (8191#16).toInt ≤ 8191) ∧
    (-2048 ≤ (BitVec.ofInt 16 (-2048)).toInt ∧ (BitVec.ofInt 16 (-2048)).toInt ≤ 2047) ∧
    (-2048 ≤ (2047#16).toInt ∧ (2047#16).toInt ≤ 2047) := by decide

theorem test_witness_TemperatureFieldsAreIndependent :
    (∀ i : Fin 32, 18 ≤ i.val → (0x064C6490#32).getLsbD i = (0x064F0000#32).getLsbD i) ∧
    (∀ i : Fin 32, 4 ≤ i.val → i.val ≤ 15 → (0x064C6490#32).getLsbD i = (0xF000649F#32).getLsbD i) := by
  decide

theorem test_witness_TemperaturesExactlyWithoutTheFaultFlag :
    0x00000001#32 ≠ 0 ∧ (0x00000001#32).getLsbD 16 = false ∧ (0x00010000#32).getLsbD 16 = true := by decide

theorem test_witness_ReservedBitsAreIgnored :
    0x00020001#32 ≠ 0 ∧ 0x00000009#32 ≠ 0 ∧
    (∀ i : Fin 32, i.val ≠ 17 → i.val ≠ 3 → (0x00020001#32).getLsbD i = (0x00000009#32).getLsbD i) ∧
    0x00020008#32 ≠ 0 ∧ (∀ i : Fin 32, i.val ≠ 17 → i.val ≠ 3 → (0x00020008#32).getLsbD i = false) := by
  decide

theorem test_witness_FaultBitsAreIgnoredWithoutTheFlag :
    0x00000008#32 ≠ 0 ∧ 0x0000000F#32 ≠ 0 ∧ (0x00000008#32).getLsbD 16 = false ∧
    ∀ i : Fin 32, 3 ≤ i.val → (0x00000008#32).getLsbD i = (0x0000000F#32).getLsbD i := by decide

theorem test_witness_PolarityInvertsBothSignBits :
    classify 0x064C6490 = .ok ∧ 0x064C6490#32 ^^^ 0x80008000#32 ≠ 0 := by decide

theorem test_witness_DecodeOfEncodedCounts :
    encodeTemps 1 (-8192) 2047 ≠ 0#32 ∧ encodeTemps 1 (-8192) (-2048) = 0#32 ∧ encodeTemps 0 0 0 = 0#32 := by
  decide

theorem test_witness_DecodeiWritesTheResultOfItsFrame :
    State.reset.phase = .off ∧ (inPhase .idle []).phase = .idle ∧
    decodeReading State.reset.cfg.signPos 0x00010006 = .fault .shortToVcc ∧
    decodeReading State.reset.cfg.signPos 0x80048010 = .temps 1 1 := by decide

/-- An idle block that has read the frame `f`. -/
def hasRead (f : Frame) (env : List Inputs) : State :=
  { inPhase .idle env with rawframe := some f, rawValid := true }

theorem test_witness_DecodeWritesTheResultOfRawframe :
    (hasRead 0x00010006 []).phase = .idle ∧ (hasRead 0x00010006 []).rawValid = true ∧
    (hasRead 0x00010006 []).rawframe = some 0x00010006 ∧
    decodeReading (hasRead 0x00010006 []).cfg.signPos 0x00010006 = .fault .shortToVcc ∧
    (hasRead 0x80048010 []).rawframe = some 0x80048010 ∧
    decodeReading (hasRead 0x80048010 []).cfg.signPos 0x80048010 = .temps 1 1 := by decide

theorem test_witness_CommandRunsTheInstructionOfItsFrame :
    (hasRead 0x864CE490 []).phase = .idle ∧ (hasRead 0x864CE490 []).rawValid = true ∧
    (hasRead 0x864CE490 []).rawframe = some 0x864CE490 ∧ State.reset.phase = .off := by decide

theorem test_witness_DecodeDependsOnlyOnItsFrame :
    State.reset.cfg.signPos = (hasRead 0x864CE490 []).cfg.signPos ∧ State.reset.phase = .off ∧
    (hasRead 0x864CE490 []).phase = .idle ∧ (hasRead 0x864CE490 []).rawValid = true ∧
    (after (exec (.decodei 0x864CE490) State.reset)).isSome = true ∧
    (after (exec (.decode 0) (hasRead 0x864CE490 []))).isSome = true := by decide

theorem test_witness_DecodersLeaveTheTransactorAlone :
    (after (exec (.decode 0) (hasRead 0x864CE490 []))).isSome = true ∧
    (after (exec .frameReadFailure State.reset)).isSome = true ∧
    (∀ arg, Instr.frameReadFailure ≠ .init arg) ∧ (∀ arg, Instr.decode 0 ≠ .trigread arg) :=
  ⟨by decide, by decide, nofun, nofun⟩

theorem test_witness_InitClaimsTheBus :
    (inPhase .off [quiet]).phase = .off ∧ (inPhase .off [quiet]).inputs.busAvail = true := by decide

theorem test_witness_InitErrorWritesOnlyStatus :
    (inPhase .off [{ quiet with busAvail := false }]).phase = .off ∧
    (inPhase .off [{ quiet with busAvail := false }]).inputs.busAvail = false := by decide

theorem test_witness_TrigreadBeginsTheTriggerPulse : (inPhase .idle []).phase = .idle := by decide

theorem test_witness_CommandNotReadyChangesNothing :
    (inPhase .idle []).cmdReady .init = false ∧ (inPhase .off []).cmdReady .trigread = false ∧
    (inPhase .idle []).cmdReady .decode = false ∧ (inPhase .read []).cmdReady .decodei = false := by decide

theorem test_witness_BusCommandsLeaveTheResultsAlone :
    (after (exec (.init 0) (inPhase .off [quiet]))).isSome = true ∧
    (after (exec (.trigread 0) (inPhase .idle []))).isSome = true := by decide

theorem test_witness_PowerUpDelayEndsInIdle :
    let s := inPhase .pwrup [{ quiet with elapsed := 200000000 }]
    s.phase = .pwrup ∧ s.inputs.moves ∧ s.cfg.tPowerup ≤ s.timer + s.inputs.elapsed := by decide

theorem test_witness_TriggerPulseEndsInSettle :
    let s := inPhase .trig [{ quiet with elapsed := 1000 }]
    s.phase = .trig ∧ s.inputs.moves ∧ s.cfg.tTrig ≤ s.timer + s.inputs.elapsed := by decide

theorem test_witness_SettleEndsInRead :
    let s := inPhase .settle [{ quiet with elapsed := 100000000 }]
    s.phase = .settle ∧ s.inputs.moves ∧ s.inputs.busFail = false ∧
      s.cfg.tSettle ≤ s.timer + s.inputs.elapsed := by decide

theorem test_witness_WaitsAreNeverCutShort :
    (let s := inPhase .pwrup [{ quiet with elapsed := 199999999 }];
      s.inputs.rst = false ∧ s.timer + s.inputs.elapsed < s.cfg.tPowerup) ∧
    (let s := inPhase .trig [{ quiet with elapsed := 999 }];
      s.inputs.rst = false ∧ s.timer + s.inputs.elapsed < s.cfg.tTrig) ∧
    (let s := inPhase .settle [{ quiet with elapsed := 99999999 }];
      s.inputs.rst = false ∧ s.timer + s.inputs.elapsed < s.cfg.tSettle) ∧
    (let s := inPhase .read [{ quiet with proceed := false }];
      s.inputs.rst = false ∧ s.phase = .read ∧ s.inputs.proceed = false) := by decide

theorem test_witness_OneBitIsClockedIn :
    (let s := { inPhase .read [tick, { quiet with so := true }] with bitcnt := 31, shift := some 5 };
      s.phase = .read ∧ s.bitcnt < 32#6 ∧ s.sck = false ∧ s.env = [tick, { quiet with so := true }] ∧
      tick.moves ∧ tick.busFail = false ∧ ({ quiet with so := true } : Inputs).moves ∧
      s.bitcnt ≠ 0#6 ∧ 1000000000 ≤ (s.clkTime + tick.elapsed) * s.cfg.fSck ∧ s.cfg.fSck ≤ 5000000) ∧
    (let s := { inPhase .read [quiet, quiet] with cfg := { fSck := 5000001 } };
      s.phase = .read ∧ s.bitcnt < 32#6 ∧ s.sck = false ∧ s.env = [quiet, quiet] ∧ quiet.moves ∧
      quiet.busFail = false ∧ s.bitcnt = 0#6 ∧ s.cfg.tCsLead ≤ s.edgeTime + quiet.elapsed) := by decide

theorem test_witness_CompleteFrameIsDelivered :
    let s := { inPhase .read [tick] with bitcnt := 32, shift := some 0x864CE490 }
    s.phase = .read ∧ s.bitcnt = 32#6 ∧ s.inputs.moves ∧
    1000000000 ≤ (s.clkTime + s.inputs.elapsed) * s.cfg.fSck ∧
    s.cfg.tCsLag ≤ s.edgeTime + s.inputs.elapsed := by decide

theorem test_witness_BusFailureReleasesTheBus :
    (let s := inPhase .settle [{ quiet with busFail := true, elapsed := 100000000 }];
      s.inputs.moves ∧ s.inputs.busFail = true ∧ s.phase = .settle ∧
        s.cfg.tSettle ≤ s.timer + s.inputs.elapsed) ∧
    (let s := { inPhase .read [{ quiet with busFail := true }] with bitcnt := 0 };
      s.inputs.moves ∧ s.inputs.busFail = true ∧ s.phase = .read ∧ s.bitcnt < 32#6 ∧ s.sck = false ∧
      s.bitcnt = 0#6 ∧ s.cfg.tCsLead ≤ s.edgeTime + s.inputs.elapsed) ∧
    (let s := { inPhase .read [{ tick with busFail := true }] with bitcnt := 31, shift := some 0 };
      s.inputs.moves ∧ s.inputs.busFail = true ∧ s.phase = .read ∧ s.bitcnt < 32#6 ∧ s.sck = false ∧
      s.bitcnt ≠ 0#6 ∧ 1000000000 ≤ (s.clkTime + s.inputs.elapsed) * s.cfg.fSck) := by
  decide

theorem test_witness_WholeInitEndsInIdle :
    let b : Inputs := { quiet with elapsed := 200000000 }
    let s := inPhase .off [offering 0x000000000, b]
    s.phase = .off ∧ s.env = offering 0x000000000 :: b :: [] ∧
    (offering 0x000000000).offers 0x000000000#34 ∧ (offering 0x000000000).busAvail = true ∧
    b.endsWait s.cfg.tPowerup := by decide

/-- Clock periods that sample the bits of `0x80000001`: the first and the last 1. -/
def somePeriods : List ClockPeriod :=
  (tick, { quiet with so := true }) :: (List.replicate 30 (tick, quiet) ++ [(tick, { quiet with so := true })])

/-- The inputs with which the trigger wait and the settle wait end, at their bounds. -/
def endTrig : Inputs := { quiet with elapsed := 1000 }
def endSettle : Inputs := { quiet with elapsed := 100000000 }

/-- An idle block before a `TRIGREAD` that samples `0x80000001`. -/
def beforeRead (rest : List Inputs) : State :=
  inPhase .idle (offering 0x100000000 :: endTrig :: endSettle :: (clockInputs somePeriods ++ tick :: rest))

/-- The bits `somePeriods` samples are those of `0x80000001`. -/
theorem test_witness_sampled_frame :
    ∀ k p, somePeriods[k]? = some p → (0x80000001#32).getLsbD (31 - k) = p.2.so := by
  intro k p h
  obtain ⟨hk, -⟩ := List.getElem?_eq_some_iff.1 h
  have all : ∀ k : Fin 32, somePeriods[k.val]?.map (fun q => q.2.so) =
      some ((0x80000001#32).getLsbD (31 - k)) := by decide
  have hs := all ⟨k, hk⟩
  rw [h] at hs
  simpa using hs.symm

/-- `somePeriods` keeps a clock of 1 MHz, to the release by `tick`. -/
theorem test_witness_paced : paced {} somePeriods tick := by
  simp [paced, periodsLast, nextStart, somePeriods, List.replicate, tick, quiet]

theorem test_witness_WholeTrigreadDeliversTheSampledFrame :
    let s := beforeRead []
    s.phase = .idle ∧ s.sck = false ∧
    s.env = offering 0x100000000 :: endTrig :: endSettle :: (clockInputs somePeriods ++ tick :: []) ∧
    (offering 0x100000000).offers 0x100000000#34 ∧ endTrig.endsWait s.cfg.tTrig ∧
    endSettle.endsWait s.cfg.tSettle ∧ endSettle.busFail = false ∧
    somePeriods.length = 32 ∧ (∀ p ∈ somePeriods, p.good) ∧ tick.moves ∧
    paced s.cfg somePeriods tick ∧ s.cfg.tCsLag ≤ tick.elapsed ∧ s.cfg.fSck ≤ 5000000 ∧
    (∀ k p, somePeriods[k]? = some p → (0x80000001#32).getLsbD (31 - k) = p.2.so) :=
  ⟨rfl, rfl, rfl, by decide, by decide, by decide, rfl, rfl, by decide, by decide,
    test_witness_paced, by decide, by decide, test_witness_sampled_frame⟩

theorem test_witness_PinEventsOfACompletedRead :
    let s := beforeRead []
    s.phase = .idle ∧ s.sck = false ∧ s.csN = true ∧
    s.env = offering 0x100000000 :: endTrig :: endSettle :: (clockInputs somePeriods ++ tick :: []) ∧
    (offering 0x100000000).offers 0x100000000#34 ∧ endTrig.endsWait s.cfg.tTrig ∧
    endSettle.endsWait s.cfg.tSettle ∧ endSettle.busFail = false ∧
    somePeriods.length = 32 ∧ (∀ p ∈ somePeriods, p.good) ∧ tick.moves ∧
    paced s.cfg somePeriods tick ∧ s.cfg.tCsLag ≤ tick.elapsed :=
  ⟨rfl, rfl, rfl, rfl, by decide, by decide, by decide, rfl, rfl, by decide, by decide,
    test_witness_paced, by decide⟩

/-- The failure in place of TR3. -/
theorem test_witness_FailedTrigreadKeepsTheOldFrame_settle :
    let c : Inputs := { endSettle with busFail := true }
    let s := inPhase .idle [offering 0x100000000, endTrig, c]
    s.phase = .idle ∧ s.sck = false ∧ (offering 0x100000000).offers 0x100000000#34 ∧
    endTrig.endsWait s.cfg.tTrig ∧ c.endsWait s.cfg.tSettle ∧
    s.env = offering 0x100000000 :: endTrig :: c :: [] ∧ c.busFail = true := by decide

/-- The failure in place of the last bit, after 31 bits; and in place of the first, after none. -/
theorem test_witness_FailedTrigreadKeepsTheOldFrame_read :
    ∀ n ∈ [0, 31],
    let periods : List ClockPeriod := List.replicate n (tick, quiet)
    let e : Inputs := { tick with busFail := true }
    let s := inPhase .idle (offering 0x100000000 :: endTrig :: endSettle :: (clockInputs periods ++ e :: []))
    s.phase = .idle ∧ s.sck = false ∧ (offering 0x100000000).offers 0x100000000#34 ∧
    endTrig.endsWait s.cfg.tTrig ∧ endSettle.endsWait s.cfg.tSettle ∧ endSettle.busFail = false ∧
    s.env = offering 0x100000000 :: endTrig :: endSettle :: (clockInputs periods ++ e :: []) ∧
    periods.length < 32 ∧ (∀ p ∈ periods, ClockPeriod.good p) ∧ e.moves ∧ e.busFail = true := by decide

theorem test_witness_FailedTrigreadKeepsTheOldFrame_paced :
    ∀ n ∈ [0, 31], paced (inPhase .idle []).cfg (List.replicate n (tick, quiet)) { tick with busFail := true } := by
  simp [paced, periodsLast, nextStart, List.replicate, tick, quiet, inPhase, State.reset]

theorem test_witness_SampleDecodesTheFrameRead :
    let s := beforeRead [offering 0x200000000]
    s.phase = .idle ∧ s.sck = false ∧
    s.env = offering 0x100000000 :: endTrig :: endSettle ::
      (clockInputs somePeriods ++ tick :: offering 0x200000000 :: []) ∧
    (offering 0x100000000).offers sampleFirst ∧ endTrig.endsWait s.cfg.tTrig ∧
    endSettle.endsWait s.cfg.tSettle ∧ endSettle.busFail = false ∧
    somePeriods.length = 32 ∧ (∀ p ∈ somePeriods, p.good) ∧ tick.moves ∧
    paced s.cfg somePeriods tick ∧ s.cfg.tCsLag ≤ tick.elapsed ∧ s.cfg.fSck ≤ 5000000 ∧
    (∀ k p, somePeriods[k]? = some p → (0x80000001#32).getLsbD (31 - k) = p.2.so) ∧
    sampleSecond .ok = some 0x200000000#34 ∧ (offering 0x200000000).offers 0x200000000#34 :=
  ⟨rfl, rfl, rfl, by decide, by decide, by decide, rfl, rfl, by decide, by decide,
    test_witness_paced, by decide, by decide, test_witness_sampled_frame, rfl, by decide⟩

theorem test_witness_decoded_both_ways :
    decodeReading 1 0x00010004 = .fault .shortToVcc ∧
    decodeReading 1 0x80000001 = .temps 0 (BitVec.ofInt 16 (-2048)) := by decide

theorem test_witness_StepRunsTheOfferedCommand :
    let s := inPhase .off [offering 0x3864CE490]
    s.inputs.rst = false ∧ s.phase = .off ∧ s.inputs.cmdValid = true := by decide

theorem test_witness_PlacedWordIsRunNext :
    decodeTableWord 32 0xFFFFFFFF = some (.frameShortToVcc ⟨1, 0x1FFF, 1, 1, 0x7FF, 1⟩ 1 1) ∧
    decodeTableWord 40 0x3FFFFFFFF = some (.decodei 0xFFFFFFFF) := by decide

theorem test_witness_NoTransactionStartsByItself :
    let s := inPhase .idle [quiet]
    s.inputs.rst = false ∧ s.phase = .idle ∧ s.inputs.cmdValid = false := by decide

theorem test_witness_BusyBlockIgnoresTheCommandPort :
    (inPhase .read []).phase = .read ∧
    offering 0x3864CE490 = { quiet with
      cmdValid := (offering 0x3864CE490).cmdValid, cmdWord := (offering 0x3864CE490).cmdWord } := by decide

theorem test_witness_ResetOverridesEverything :
    (inPhase .read [{ quiet with rst := true }]).inputs.rst = true := by decide

/-- An idle block with a decoded frame meets the invariant. -/
def decoded (env : List Inputs) : State :=
  { hasRead 0x864CE490 env with
    fault := some .ok, resValid := true, tempValid := true
    tcCount := some 403, cjCount := some 1609, tcF20 := some 4267, cjF80 := some 17041 }

theorem test_witness_inv : (decoded [quiet]).Inv where
  cs := by decide
  sck := by decide
  bits := by decide
  raw := by decide
  rawSession := by decide
  res := by decide
  temp := by decide
  tcSome := by decide
  cjSome := by decide
  tcRange := by rintro n ⟨⟩; decide
  cjRange := by rintro m ⟨⟩; decide
  tcF := by decide
  cjF := by decide
  shiftSome := by decide
  sckBit := by decide
  timer := by decide
  clock := by decide
  codes := ⟨by decide, by decide, by decide, by rintro c ⟨⟩; decide⟩

theorem test_witness_StepKeepsTheInvariant : (after (step (decoded [quiet]))).isSome = true := by decide

theorem test_witness_ReachableStatesMeetTheInvariant :
    Reachable { State.reset with cfg := { signPos := 0 }, env := [quiet], draws := 7 } :=
  Reachable.reset _ _ _

theorem test_witness_SessionLastsUntilReset :
    (inPhase .read [quiet]).inputs.rst = false ∧ (inPhase .read [quiet]).session = true ∧
    (after (step (inPhase .read [quiet]))).isSome = true := by decide

theorem test_witness_RawframeIsWrittenOnlyByACompleteRead :
    let s := { inPhase .read [tick] with bitcnt := 32, shift := some 0x864CE490 }
    s.inputs.rst = false ∧ (after (step s)).map (fun t => t.rawframe) = some (some 0x864CE490) := by decide

theorem test_witness_StatusIsWrittenOnlyAtCompletions :
    let s := inPhase .off [{ offering 0 with busAvail := false }]
    s.inputs.rst = false ∧ (after (step s)).map (fun t => t.status) = some .initError ∧
      s.status = .ok := by decide

theorem test_witness_ResponseExactlyAtCompletion :
    let s := inPhase .pwrup [{ quiet with elapsed := 200000000 }]
    s.inputs.rst = false ∧ s.phase = .pwrup ∧ (after (step s)).isSome = true := by decide

theorem test_witness_ResultsAreWrittenOnlyByDecodes :
    let s := inPhase .off [offering 0x3864CE490]
    s.inputs.rst = false ∧ (after (step s)).map (fun t => t.resValid) = some true := by decide

theorem test_witness_PinsMoveOnlyWhereTheirPhaseSays :
    (decoded [quiet]).inputs.rst = false ∧
    (after (step { inPhase .read [quiet] with csN := false })).map (fun t => t.sck) = some true := by decide

/-- Two ends of a read that differ in what earlier commands left: the frames, the status, the results. -/
theorem test_witness_ReadsForgetEarlierCommands :
    let s₁ := { inPhase .read [tick] with bitcnt := 32, shift := some 0x864CE490, csN := false }
    let s₂ := { s₁ with rawframe := some 7, rawValid := true, status := .busError, resValid := true }
    SameTransaction s₁ s₂ ∧ s₁.phase = .read ∧ s₁.bitcnt = 32#6 ∧
    (after (step s₁)).map (fun t => t.phase) = some .idle ∧ (after (step s₂)).isSome = true :=
  ⟨⟨rfl, rfl, rfl, rfl, rfl, rfl, rfl, rfl, rfl, rfl, fun _ => rfl⟩, rfl, rfl, by decide, by decide⟩

theorem test_witness_ConfigurationNeverChanges :
    (after (step (inPhase .read [{ quiet with rst := true }]))).isSome = true := by decide

/-- The three clauses: no reading at reset, temperatures with TEMP_VALID = 1, none with a fault. -/
theorem test_witness_ReadingMeetsTheFahrenheitLaw :
    State.reset.reading.isSome = false ∧
    (decoded []).reading.map (fun r => r.fault) = some .ok ∧ (decoded []).tempValid = true ∧
    (let s := { State.reset with fault := some .openCircuit, resValid := true }
     s.reading.map (fun r => r.fault) = some .openCircuit ∧ s.tempValid = false) := by
  simp [State.reading, decoded, hasRead, inPhase, State.reset]

theorem test_witness_ClockEdgesKeepTheirSpacing :
    (let s := { inPhase .read [{ quiet with elapsed := 49 }] with cfg := { tCsLead := 50 } };
      s.inputs.rst = false ∧ s.phase = .read ∧ s.bitcnt = 0#6 ∧ s.sck = false ∧
      s.edgeTime + s.inputs.elapsed < s.cfg.tCsLead) ∧
    (let s := { inPhase .read [{ quiet with elapsed := 999 }] with bitcnt := 31 };
      s.inputs.rst = false ∧ s.bitcnt ≠ 0#6 ∧ s.bitcnt < 32#6 ∧ s.sck = false ∧
      (s.clkTime + s.inputs.elapsed) * s.cfg.fSck < 1000000000) ∧
    (let s := { inPhase .read [{ quiet with elapsed := 999 }] with bitcnt := 32 };
      s.inputs.rst = false ∧ s.bitcnt = 32#6 ∧
      (s.clkTime + s.inputs.elapsed) * s.cfg.fSck < 1000000000) ∧
    (let s := { inPhase .read [tick] with bitcnt := 32, cfg := { tCsLag := 1001 } };
      s.inputs.rst = false ∧ s.bitcnt = 32#6 ∧ s.edgeTime + s.inputs.elapsed < s.cfg.tCsLag) := by decide

/-- One response of each kind: a refused bus, a failed read, a complete read, a decode after an error. -/
theorem test_witness_ResponsePortsCopyTheRegisters :
    let ports (s : State) := (after (step s)).map (fun t => (t.outputs.rspValid, t.outputs.rspStatus, t.outputs.rspFrame))
    ports (inPhase .off [{ offering 0 with busAvail := false }]) = some (true, some 1#2, none) ∧
    ports { inPhase .read [{ quiet with busFail := true }] with csN := false } = some (true, some 2#2, none) ∧
    ports { inPhase .read [tick] with csN := false, bitcnt := 32, shift := some 0x864CE490 } =
      some (true, some 0#2, some 0x864CE490) ∧
    ports { inPhase .idle [offering 0x300010001] with status := .busError } = some (true, some 0#2, none) := by
  decide

end Sys2Proof.Tests
end

section
/-!
The invariant of the block (10 R47), what each step does to the registers it may write, and the
statements about the state that follow from the list of transitions.
-/

namespace Sys2Proof

theorem FaultCode.code_injective : Function.Injective FaultCode.code := by
  intro p q
  cases p <;> cases q <;> decide

end Sys2Proof

namespace Sys2Proof.Machine

/-! ### The numbers the decoder writes -/

/-- Setting the bits from `W` up is adding `2 ^ 16 - 2 ^ W`, since `v` has none of them (41 R146, R147). -/
theorem signFill_toNat {W : Nat} (hW : W < 16) (v : BitVec W) :
    (((0xFFFF#16 >>> W) <<< W) ||| v.setWidth 16).toNat = 2 ^ 16 - 2 ^ W + v.toNat := by
  have hlow : v.toNat % 65536 = v.toNat :=
    Nat.mod_eq_of_lt (v.isLt.trans (Nat.pow_lt_pow_right (by decide) hW))
  have hhigh : ∀ W < 16, (65535 >>> W) <<< W % 65536 = 2 ^ 16 - 2 ^ W ∧
      (65535 >>> W) <<< W = 2 ^ 16 - 2 ^ W := by decide
  obtain ⟨hmod, hval⟩ := hhigh W hW
  calc (((0xFFFF#16 >>> W) <<< W) ||| v.setWidth 16).toNat
      = 2 ^ 16 - 2 ^ W ||| v.toNat := by simp [hlow, hmod]
    _ = (65535 >>> W) <<< W ||| v.toNat := by rw [hval]
    _ = (65535 >>> W) <<< W + v.toNat := (Nat.shiftLeft_add_eq_or_of_lt v.isLt _).symm
    _ = 2 ^ 16 - 2 ^ W + v.toNat := by rw [hval]

/-- The closed form of the sign handling (41 R147). -/
theorem signedCount_toInt {W : Nat} (hW : W < 16) (signPos s : BitVec 1) (v : BitVec W) :
    (signedCount signPos v s).toInt = v.toNat - (if s = signPos then 0 else 2 ^ W) := by
  have hv := v.isLt
  have hpow : 2 ^ W ≤ 2 ^ 15 := Nat.pow_le_pow_right (by decide) (Nat.le_of_lt_succ hW)
  have hcast : ((2 ^ W : Nat) : Int) = 2 ^ W := by push_cast; rfl
  unfold signedCount
  split
  · rw [BitVec.toInt_eq_toNat_of_lt (by simp; omega)]
    simp; omega
  · rw [BitVec.toInt_eq_toNat_cond, signFill_toNat hW]
    split <;> omega

/-- The range of a count of `W` magnitude bits (41 R147). -/
theorem signedCount_range {W : Nat} (hW : W < 16) (signPos s : BitVec 1) (v : BitVec W) :
    -2 ^ W ≤ (signedCount signPos v s).toInt ∧ (signedCount signPos v s).toInt ≤ 2 ^ W - 1 := by
  have hv : (v.toNat : Int) < 2 ^ W := by exact_mod_cast v.isLt
  rw [signedCount_toInt hW]
  split <;> omega

theorem tcCountOf_range (signPos : BitVec 1) (f : Frame) :
    -8192 ≤ (tcCountOf signPos f).toInt ∧ (tcCountOf signPos f).toInt ≤ 8191 :=
  signedCount_range (by decide) signPos _ (extract f 18 13)

theorem cjCountOf_range (signPos : BitVec 1) (f : Frame) :
    -2048 ≤ (cjCountOf signPos f).toInt ∧ (cjCountOf signPos f).toInt ≤ 2047 :=
  signedCount_range (by decide) signPos _ (extract f 4 11)

/-- `9n + 640` fits its 18 bits for every thermocouple count (41 R150). -/
theorem tcFahrenheit_toInt {n : Count} (hlo : -8192 ≤ n.toInt) (hhi : n.toInt ≤ 8191) :
    (tcFahrenheit n).toInt = 9 * n.toInt + 640 := by
  have hn : (n.signExtend 18).toInt = n.toInt := BitVec.toInt_signExtend_of_le (by decide)
  rw [tcFahrenheit, BitVec.toInt_add, BitVec.toInt_mul, hn, Int.bmod_add_bmod]
  exact Int.bmod_eq_of_le (by simp; omega) (by simp; omega)

/-- `9m + 2560` fits its 16 bits for every cold-junction count (41 R150). -/
theorem cjFahrenheit_toInt {m : Count} (hlo : -2048 ≤ m.toInt) (hhi : m.toInt ≤ 2047) :
    (cjFahrenheit m).toInt = 9 * m.toInt + 2560 := by
  rw [cjFahrenheit, BitVec.toInt_add, BitVec.toInt_mul, Int.bmod_add_bmod]
  exact Int.bmod_eq_of_le (by simp; omega) (by simp; omega)

/-! ### The codes (10 R24, R32, R34) -/

theorem Phase.code_injective : Function.Injective Phase.code := by
  intro p q
  cases p <;> cases q <;> decide

theorem Status.code_injective : Function.Injective Status.code := by
  intro p q
  cases p <;> cases q <;> decide

/-- The codes 6 and 7 of PHASE and FAULT and 3 of STATUS are never taken (10 R47 (h)). -/
theorem unused_codes (p : Phase) (st : Status) (f : Option FaultCode) :
    p.code ≠ 6#3 ∧ p.code ≠ 7#3 ∧ st.code ≠ 3#2 ∧ ∀ c, f = some c → c.code ≠ 6#3 ∧ c.code ≠ 7#3 := by
  refine ⟨?_, ?_, ?_, fun c _ => ?_⟩
  · cases p <;> decide
  · cases p <;> decide
  · cases st <;> decide
  · cases c <;> decide

/-! ### Each step rule keeps the invariant (10 R47)

A register that a step leaves alone keeps its condition, so each proof names only the conditions on
what the step writes. -/

theorem State.reset_inv : State.reset.Inv where
  cs := by decide
  sck := fun _ => rfl
  bits := by decide
  raw := rfl
  rawSession := by decide
  res := rfl
  temp := by decide
  tcSome := rfl
  cjSome := rfl
  tcRange := nofun
  cjRange := nofun
  tcF := rfl
  cjF := rfl
  shiftSome := by decide
  sckBit := by decide
  timer := fun _ => rfl
  clock := fun _ => ⟨rfl, rfl⟩
  codes := unused_codes _ _ _

/-- The invariant says nothing of the configuration or the environment. -/
theorem State.reset_with_inv (cfg : Config) (env : List Inputs) (draws : Nat) :
    ({ State.reset with cfg := cfg, env := env, draws := draws } : State).Inv :=
  { State.reset_inv with }

section
variable {s : State} (hi : s.Inv)
include hi

theorem State.Inv.shift_none (hp : s.phase ≠ .read) : s.shift = none := by
  simpa [hp] using hi.shiftSome

theorem State.Inv.pass : s.pass.Inv := { hi with }

theorem State.Inv.respond (st : Status) (f : Option Frame) : (s.respond st f).Inv := { hi with }

theorem State.Inv.passTime (hw : s.phase.waits = true) : s.passTime.Inv :=
  { hi with timer := by simp [hw] }

theorem State.Inv.passClock (hp : s.phase = .read) : s.passClock.Inv :=
  { hi with clock := by simp [hp] }

theorem State.Inv.raise_initError : (s.raise .initError).Inv :=
  { hi with codes := unused_codes _ _ _ }

/-- A move of PHASE outside P_READ: SHIFT has no value and the clock is low, before it and after. -/
theorem State.Inv.setPhase (hp : s.phase ≠ .read) {q : Phase} (hoff : q ≠ .off) (hread : q ≠ .read)
    (b : Level) (hb : b = false ↔ q = .trig) (st : Status) :
    ({ s with phase := q, csN := b, timer := 0, status := st } : State).Inv :=
  { hi with
    cs := by simp [hb, hread]
    sck := fun _ => hi.sck hp
    rawSession := fun _ => hoff
    shiftSome := by simp [hi.shift_none hp, hread]
    timer := fun _ => rfl
    clock := fun _ => hi.clock hp
    codes := unused_codes _ _ _ }

theorem State.Inv.stepIN1 (hp : s.phase = .off) : s.stepIN1.Inv :=
  { hi.setPhase (by simp [hp]) (q := .pwrup) nofun nofun true (by simp) s.status with
    sck := fun _ => rfl
    sckBit := nofun }

theorem State.Inv.stepIN2 (hp : s.phase = .pwrup) : s.stepIN2.Inv :=
  (hi.setPhase (by simp [hp]) (q := .idle) nofun nofun s.csN (by simp [hi.cs, hp]) .ok).respond .ok none

theorem State.Inv.stepTR1 (hp : s.phase = .idle) : s.stepTR1.Inv :=
  hi.setPhase (by simp [hp]) (q := .trig) nofun nofun false (by simp) s.status

theorem State.Inv.stepTR2 (hp : s.phase = .trig) : s.stepTR2.Inv :=
  hi.setPhase (by simp [hp]) (q := .settle) nofun nofun true (by simp) s.status

theorem State.Inv.stepTR3 (hp : s.phase = .settle) : s.stepTR3.Inv :=
  { hi with
    cs := by simp
    sck := by simp
    bits := by simp
    rawSession := by simp
    shiftSome := by simp [hi.shift_none, hp]
    sckBit := by simp
    timer := fun _ => rfl
    clock := by simp
    codes := unused_codes _ _ _ }

theorem State.Inv.stepTR4Rise (hp : s.phase = .read) (hb : s.bitcnt < 32#6) : s.stepTR4Rise.Inv :=
  { hi with
    sck := by simp [hp]
    sckBit := fun _ => hb
    clock := by simp [hp] }

theorem State.Inv.stepTR4Fall (hp : s.phase = .read) (hb : s.bitcnt < 32#6) (old : BitVec 32) (b : Level) :
    (s.stepTR4Fall old b).Inv :=
  { hi with
    sck := fun _ => rfl
    bits := by simp; bv_omega
    shiftSome := by simp [hp]; bv_omega
    sckBit := by simp
    clock := by simp [hp] }

/-- With all 32 bits in, SHIFT holds the frame and the clock is low. -/
theorem State.Inv.stepTR5 (hp : s.phase = .read) (hb : s.bitcnt = 32#6) : s.stepTR5.Inv :=
  { hi with
    cs := by simp
    sck := fun _ => by simpa [hb] using hi.sckBit
    raw := hi.shiftSome.2 ⟨hp, by simp [hb]⟩
    rawSession := by simp
    shiftSome := by simp
    timer := fun _ => hi.timer (by simp [hp, Phase.waits])
    clock := fun _ => ⟨rfl, rfl⟩
    codes := unused_codes _ _ _ }

theorem State.Inv.raise_busError : (s.raise .busError).Inv :=
  { hi with
    cs := by simp
    sck := fun _ => rfl
    rawSession := by simp
    shiftSome := by simp
    sckBit := by simp
    timer := fun _ => rfl
    clock := fun _ => ⟨rfl, rfl⟩
    codes := unused_codes _ _ _ }

theorem State.Inv.writeResult_fault {c : FaultCode} (hc : c ≠ .ok) : (s.writeResult (.fault c)).Inv :=
  { hi with
    res := rfl
    temp := by simp [hc]
    tcSome := rfl
    cjSome := rfl
    tcRange := nofun
    cjRange := nofun
    tcF := rfl
    cjF := rfl
    codes := unused_codes _ _ _ }

theorem State.Inv.writeResult_temps (signPos : BitVec 1) (f : Frame) :
    (s.writeResult (.temps (tcCountOf signPos f) (cjCountOf signPos f))).Inv :=
  { hi with
    res := rfl
    temp := iff_of_true rfl rfl
    tcSome := rfl
    cjSome := rfl
    tcRange := by rintro _ ⟨⟩; exact tcCountOf_range signPos f
    cjRange := by rintro _ ⟨⟩; exact cjCountOf_range signPos f
    tcF := rfl
    cjF := rfl
    codes := unused_codes _ _ _ }

/-- The decoder gives a fault code other than `Ok`, or two counts in range; either may be written. -/
theorem State.Inv.completeDecode (signPos : BitVec 1) (f : Frame) :
    (s.completeDecode (decodeReading signPos f)).Inv := by
  rw [State.completeDecode_eq]
  apply State.Inv.respond
  rcases decodeReading_cases signPos f with ⟨c, hc, -, e⟩ | ⟨-, e⟩ <;> rw [e]
  · exact hi.pass.writeResult_fault hc
  · exact hi.pass.writeResult_temps signPos f

theorem State.Inv.transition {t : State} (ht : Transition s t) : t.Inv := by
  cases ht with
  | reset => exact State.reset_with_inv _ _ _
  | stepIN1 _ _ hp => exact hi.pass.stepIN1 hp
  | stepINE => exact hi.pass.raise_initError
  | stepIN2 _ hp => exact hi.pass.stepIN2 hp
  | stepTR1 _ _ hp => exact hi.pass.stepTR1 hp
  | stepTR2 _ hp => exact hi.pass.stepTR2 hp
  | stepTR3 _ hp => exact hi.pass.stepTR3 hp
  | stepTR4Rise _ hp _ hb => exact hi.pass.stepTR4Rise hp hb
  | stepTR4Fall _ hp _ hb => exact (hi.passClock hp).stepTR4Fall hp hb _ _
  | stepTR5 _ hp _ hb => exact hi.pass.stepTR5 hp hb
  | stepTRE => exact hi.pass.raise_busError
  | waits _ hp => exact hi.passTime (by rcases hp with hp | hp | hp <;> rw [hp] <;> rfl)
  | decodes f => exact hi.completeDecode _ f
  | clockWaits _ hp => exact hi.passClock hp
  | passes => exact hi.pass

end

/-- Settles O46: every step is one of the step rules, and each keeps the invariant. -/
theorem stepKeepsTheInvariant : Obligations.StepKeepsTheInvariant :=
  fun _ _ hi h => hi.transition (step_transition h)

/-- Settles O45: reset leaves both lines idle and every register empty or zero. -/
theorem invariantHoldsAtReset : Obligations.InvariantHoldsAtReset :=
  State.reset_inv

/-- Settles O47, by induction on the run. -/
theorem reachableStatesMeetTheInvariant : Obligations.ReachableStatesMeetTheInvariant := by
  intro s h
  induction h with
  | reset cfg env draws => exact State.reset_with_inv cfg env draws
  | step s t _ hst ih => exact stepKeepsTheInvariant s t ih hst

/-! ### What a step may write, from the step rules -/

/-- The ways PHASE may change without reset: those of the steps of 40_bus_transactor.md (10 R24). -/
inductive PhaseMove : Phase → Phase → Prop where
  | stays (p : Phase) : PhaseMove p p
  | stepIN1 : PhaseMove .off .pwrup
  | stepIN2 : PhaseMove .pwrup .idle
  | stepTR1 : PhaseMove .idle .trig
  | stepTR2 : PhaseMove .trig .settle
  | stepTR3 : PhaseMove .settle .read
  | stepTR5 : PhaseMove .read .idle
  | stepTRE : PhaseMove .settle .idle

/-- No move leads back to P_OFF (10 R25). -/
theorem PhaseMove.ne_off {p q : Phase} (h : PhaseMove p q) (hp : p ≠ .off) : q ≠ .off := by
  cases h with
  | stays => exact hp
  | stepIN1 => exact absurd rfl hp
  | _ => nofun

/-- The phases in which the select line is low are entered by TR1 and TR3 only (40 R106, R108). -/
theorem PhaseMove.selects {p q : Phase} (h : PhaseMove p q) (hp : ¬(p = .trig ∨ p = .read))
    (hq : q = .trig ∨ q = .read) : p = .idle ∧ q = .trig ∨ p = .settle ∧ q = .read := by
  cases h with
  | stays => exact absurd hq hp
  | _ => simp at hp hq ⊢

/-- They are left by TR2 and at the end of the read only (40 R107, R110, R111). -/
theorem PhaseMove.releases {p q : Phase} (h : PhaseMove p q) (hp : p = .trig ∨ p = .read)
    (hq : ¬(q = .trig ∨ q = .read)) : p = .trig ∧ q = .settle ∨ p = .read ∧ q = .idle := by
  cases h with
  | stays => exact absurd hp hq
  | _ => simp at hp hq ⊢

section
variable {s t : State} (ht : Transition s t) (hr : s.inputs.rst = false)
include ht hr

theorem Transition.phaseMove : PhaseMove s.phase t.phase := by
  cases ht with
  | reset hrst => simp [hr] at hrst
  | stepIN1 _ _ hp => rw [hp]; exact .stepIN1
  | stepIN2 _ hp => rw [hp]; exact .stepIN2
  | stepTR1 _ _ hp => rw [hp]; exact .stepTR1
  | stepTR2 _ hp => rw [hp]; exact .stepTR2
  | stepTR3 _ hp => rw [hp]; exact .stepTR3
  | stepTR5 _ hp => rw [hp]; exact .stepTR5
  | stepTRE _ _ _ hp =>
    rcases hp with ⟨hp, -⟩ | ⟨hp, -⟩ <;> rw [hp]
    · exact .stepTRE
    · exact .stepTR5
  | decodes => rw [State.completeDecode_phase]; exact .stays _
  | _ => exact .stays _

/-- The result registers are kept, or an accepted decode writes them (20 R60). -/
theorem Transition.results :
    SameResults t s ∨
    ((s.phase = .off ∨ s.phase = .idle) ∧
      ((∃ f, s.offered = some (.decodei f)) ∨
        (s.rawValid = true ∧ ∃ arg, s.offered = some (.decode arg)))) := by
  cases ht with
  | reset hrst => simp [hr] at hrst
  | decodes f _ hp ho => exact .inr ⟨hp, ho.imp (⟨f, ·⟩) fun ⟨hv, _, ha⟩ => ⟨hv, ha⟩⟩
  | _ => exact .inl ⟨rfl, rfl, rfl, rfl, rfl, rfl, rfl⟩

/-- The frame registers are kept, or the completing read writes both (20 R58). -/
theorem Transition.rawframe :
    (t.rawframe = s.rawframe ∧ t.rawValid = s.rawValid) ∨
    (s.phase = .read ∧ s.bitcnt = 32#6 ∧ t.rawframe = s.shift ∧ t.rawValid = true ∧
      t.status = .ok ∧ t.phase = .idle) := by
  cases ht with
  | reset hrst => simp [hr] at hrst
  | stepTR5 _ hp _ hb => exact .inr ⟨hp, hb, rfl, rfl, rfl, rfl⟩
  | decodes => exact .inl ⟨State.completeDecode_rawframe _ _, State.completeDecode_rawValid _ _⟩
  | _ => exact .inl ⟨rfl, rfl⟩

end

/-- Settles O48: no move of PHASE leads back to P_OFF. -/
theorem sessionLastsUntilReset : Obligations.SessionLastsUntilReset := by
  intro s t hr hs h
  simp only [State.session, decide_eq_true_eq] at hs ⊢
  exact ((step_transition h).phaseMove hr).ne_off hs

/-- Settles O49: only TR5 writes the frame registers. -/
theorem rawframeIsWrittenOnlyByACompleteRead : Obligations.RawframeIsWrittenOnlyByACompleteRead :=
  fun _ _ hr h => (step_transition h).rawframe hr

/-- Settles O50: of the step rules, only four write STATUS. -/
theorem statusIsWrittenOnlyAtCompletions : Obligations.StatusIsWrittenOnlyAtCompletions := by
  intro s t hr h hne
  cases step_transition h with
  | reset hrst => simp [hr] at hrst
  | stepINE arg _ hp hv ho => exact ⟨⟨none, rfl⟩, .inl ⟨rfl, hp, hp, hv, arg, ho⟩⟩
  | stepIN2 _ hp => exact ⟨⟨none, rfl⟩, .inr (.inr ⟨rfl, .inl hp, rfl⟩)⟩
  | stepTR5 _ hp => exact ⟨⟨s.shift, rfl⟩, .inr (.inr ⟨rfl, .inr hp, rfl⟩)⟩
  | stepTRE _ _ hf hp =>
    exact ⟨⟨none, rfl⟩, .inr (.inl ⟨rfl, hp.imp And.left And.left, rfl, hf⟩)⟩
  | decodes => exact absurd (State.completeDecode_status _ _) hne
  | _ => exact absurd rfl hne

/-- Settles O52: of the step rules, only an accepted decode writes a result register. -/
theorem resultsAreWrittenOnlyByDecodes : Obligations.ResultsAreWrittenOnlyByDecodes :=
  fun _ _ hr h => (step_transition h).results hr

/-- The clock moves only at the two halves of TR4; the steps that set it low elsewhere find it low. -/
theorem Transition.sck {s t : State} (ht : Transition s t) (hi : s.Inv) (hr : s.inputs.rst = false)
    (hne : t.sck ≠ s.sck) : s.phase = .read ∧ t.phase = .read ∧ s.bitcnt < 32#6 := by
  cases ht with
  | reset hrst => simp [hr] at hrst
  | stepIN1 _ _ hp => exact absurd (hi.sck (by simp [hp])).symm hne
  | stepTR4Rise _ hp _ hb => exact ⟨hp, hp, hb⟩
  | stepTR4Fall _ hp _ hb => exact ⟨hp, hp, hb⟩
  | stepTRE _ _ _ hp =>
    rcases hp with ⟨hp, -⟩ | ⟨-, -, hk, -⟩
    · exact absurd (hi.sck (by simp [hp])).symm hne
    · exact absurd hk.symm hne
  | decodes => exact absurd (State.completeDecode_sck _ _) hne
  | _ => exact absurd rfl hne

/-- Settles O53: CS_N is low exactly in P_TRIG and P_READ before the step and after it, so its edges
are moves of PHASE. -/
theorem pinsMoveOnlyWhereTheirPhaseSays : Obligations.PinsMoveOnlyWhereTheirPhaseSays := by
  intro s t hi hr h
  have ht := step_transition h
  have hct := (hi.transition ht).cs
  have hmove := ht.phaseMove hr
  refine ⟨ht.sck hi hr, hct, fun hs hf => ?_, fun hs hf => ?_⟩
  · exact hmove.selects (by simp [← hi.cs, hs]) (hct.1 hf)
  · exact hmove.releases (hi.cs.1 hs) (by simp [← hct, hf])

/-- Settles O54: no step rule writes the configuration, and a reset keeps it. -/
theorem configurationNeverChanges : Obligations.ConfigurationNeverChanges := by
  intro s t h
  cases step_transition h with
  | decodes => exact State.completeDecode_cfg _ _
  | _ => rfl

/-- With TEMP_VALID = 1 all four temperature registers hold a value, in range (10 R22, R47 (g)). -/
theorem State.Inv.temperatures {s : State} (hi : s.Inv) (hv : s.tempValid = true) :
    ∃ n m : Count, s.tcCount = some n ∧ s.cjCount = some m ∧
      s.tcF20 = some (tcFahrenheit n) ∧ s.cjF80 = some (cjFahrenheit m) ∧
      (tcFahrenheit n).toInt = 9 * n.toInt + 640 ∧ (cjFahrenheit m).toInt = 9 * m.toInt + 2560 := by
  obtain ⟨n, hn⟩ := Option.isSome_iff_exists.1 (hi.tcSome.trans hv)
  obtain ⟨m, hm⟩ := Option.isSome_iff_exists.1 (hi.cjSome.trans hv)
  obtain ⟨hnlo, hnhi⟩ := hi.tcRange n hn
  obtain ⟨hmlo, hmhi⟩ := hi.cjRange m hm
  exact ⟨n, m, hn, hm, by simp [hi.tcF, hn], by simp [hi.cjF, hm],
    tcFahrenheit_toInt hnlo hnhi, cjFahrenheit_toInt hmlo hmhi⟩

/-- The reading is defined exactly when RES_VALID = 1 (10 R42). -/
theorem State.Inv.reading_isSome {s : State} (hi : s.Inv) : s.reading.isSome = s.resValid := by
  unfold State.reading
  split
  next h => rw [Option.isSome_map, hi.res]
  next h => simp [h]

/-- The reading of a result without temperatures (10 R42). -/
theorem State.reading_of_fault {s : State} {c : FaultCode} (hr : s.resValid = true)
    (hf : s.fault = some c) (hv : s.tempValid = false) :
    s.reading = some ⟨c, none, none, none, none⟩ := by
  simp [State.reading, hr, hf, hv]

/-- The reading of a result with temperatures (10 R42). -/
theorem State.reading_of_temps {s : State} {c : FaultCode} {n m : Count} {x : BitVec 18} {y : BitVec 16}
    (hr : s.resValid = true) (hf : s.fault = some c) (hv : s.tempValid = true)
    (hn : s.tcCount = some n) (hm : s.cjCount = some m) (hx : s.tcF20 = some x) (hy : s.cjF80 = some y) :
    s.reading = some ⟨c, some ((n.toInt : ℚ) / 4), some ((x.toInt : ℚ) / 20),
      some ((m.toInt : ℚ) / 16), some ((y.toInt : ℚ) / 80)⟩ := by
  simp [State.reading, hr, hf, hv, hn, hm, hx, hy]

/-- Settles O56: the invariant gives all the registers of the reading together, and the ranges in which
the Fahrenheit registers do not overflow. -/
theorem readingMeetsTheFahrenheitLaw : Obligations.ReadingMeetsTheFahrenheitLaw := by
  intro s hi
  refine ⟨by rw [hi.reading_isSome], fun r hr => ?_⟩
  have hres : s.resValid = true := by rw [← hi.reading_isSome, hr, Option.isSome_some]
  obtain ⟨c, hc⟩ := Option.isSome_iff_exists.1 (hi.res.trans hres)
  cases hv : s.tempValid with
  | false =>
    obtain rfl := Option.some.inj (hr.symm.trans (State.reading_of_fault hres hc hv))
    exact ⟨hc, fun _ => ⟨rfl, rfl, rfl, rfl⟩, nofun⟩
  | true =>
    obtain ⟨n, m, hn, hm, hx, hy, hF, hG⟩ := hi.temperatures hv
    obtain rfl := Option.some.inj (hr.symm.trans (State.reading_of_temps hres hc hv hn hm hx hy))
    refine ⟨hc, nofun, fun _ =>
      ⟨n, m, _, _, hn, hm, hx, hy, rfl, rfl, rfl, rfl, hF, hG, ?_, ?_⟩⟩
    · rw [hF]; push_cast; ring
    · rw [hG]; push_cast; ring

/-- Settles O58: the codes are injective, and each port is read off the state. -/
theorem outputPortsShowTheCodes : Obligations.OutputPortsShowTheCodes := by
  refine ⟨by decide, ⟨Phase.code_injective, Status.code_injective, FaultCode.code_injective⟩, ?_⟩
  intro s
  refine ⟨rfl, rfl, rfl, rfl, rfl, rfl, rfl, rfl, rfl, ?_, ?_, ?_, ?_⟩
  · simp [State.outputs, eq_comm]
  · simp [State.outputs, Option.isSome_iff_exists]
  · simp [State.outputs, eq_comm]
  · simp [State.outputs, Option.bind_eq_some_iff]

/-- Settles O59: of the step rules, five make a response. -/
theorem responsePortsCopyTheRegisters : Obligations.ResponsePortsCopyTheRegisters := by
  intro s t hr h hv
  cases step_transition h with
  | reset hrst => simp [hr] at hrst
  | stepINE arg _ hp _ ho => exact .inl ⟨rfl, rfl, .inl ⟨hp, arg, ho⟩⟩
  | stepIN2 _ hp => exact .inl ⟨rfl, rfl, .inr (.inl ⟨hp, rfl⟩)⟩
  | stepTR5 _ hp => exact .inr (.inl ⟨rfl, rfl, hp, rfl, rfl⟩)
  | stepTRE _ _ _ hp => exact .inl ⟨rfl, rfl, .inr (.inr ⟨hp.imp And.left And.left, rfl⟩)⟩
  | decodes f _ hp ho =>
    refine .inr (.inr ⟨?_, ?_, State.completeDecode_status _ _, hp, ho.imp (⟨f, ·⟩) fun ⟨_, _, ha⟩ => ha⟩)
    · simp [State.outputs, Status.code]
    · simp [State.outputs]
  | _ => cases hv

end Sys2Proof.Machine
end

section
/-!
The encodings of spec/30_encoding.md: how a frame and a command word are put together from their
fields, the class that the flag bits of a frame give it, and the two directions of the encoding.
-/

namespace Sys2Proof

/-! ### A frame and its fields (30 R71) -/

/-- The pieces of `frameOf` are adjoining slices of the frame. -/
theorem frameOf_frameFields (f : Frame) :
    frameOf (frameFields f) (f.extractLsb' 16 1) (f.extractLsb' 2 1) (f.extractLsb' 1 1)
      (f.extractLsb' 0 1) = f := by
  unfold frameOf frameFields
  iterate 9 rw [BitVec.extractLsb'_append_extractLsb'_eq_extractLsb' (by rfl)]
  exact BitVec.extractLsb'_eq_self

section
open BitVec
variable (t : FrameFields) (flt scv scg oc : BitVec 1)

@[simp] theorem frameFields_frameOf : frameFields (frameOf t flt scv scg oc) = t := by
  simp (disch := decide) only [frameFields, frameOf, extractLsb'_append_eq_of_le, Nat.reduceSub,
    extractLsb'_append_eq_right, extractLsb'_eq_self]

@[simp] theorem frameOf_flt : (frameOf t flt scv scg oc).extractLsb' 16 1 = flt := by
  simp (disch := decide) only [frameOf, extractLsb'_append_eq_of_le, Nat.reduceSub, extractLsb'_append_eq_right]

@[simp] theorem frameOf_scv : (frameOf t flt scv scg oc).extractLsb' 2 1 = scv := by
  simp (disch := decide) only [frameOf, extractLsb'_append_eq_of_le, Nat.reduceSub, extractLsb'_append_eq_right]

@[simp] theorem frameOf_scg : (frameOf t flt scv scg oc).extractLsb' 1 1 = scg := by
  simp (disch := decide) only [frameOf, extractLsb'_append_eq_of_le, Nat.reduceSub, extractLsb'_append_eq_right]

@[simp] theorem frameOf_oc : (frameOf t flt scv scg oc).extractLsb' 0 1 = oc :=
  extractLsb'_append_eq_right

end

/-- A field of one bit is 1 exactly when the frame's bit is. -/
theorem extractLsb'_one (f : Frame) (pos : Nat) : f.extractLsb' pos 1 = 1#1 ↔ f.getLsbD pos = true :=
  Machine.extract_one f pos

/-! ### The class of a frame (30 R73, R74) -/

/-- The class that the fault flag and the fault bits give, the all-zero test left out: the highest
fault bit wins (30 R74). -/
def flagClass (f : Frame) : FaultCode :=
  if f.getLsbD 16 then
    if f.getLsbD 2 then .shortToVcc
    else if f.getLsbD 1 then .shortToGnd
    else if f.getLsbD 0 then .openCircuit
    else .unknown
  else .ok

theorem flagClass_ne_readFailure (f : Frame) : flagClass f ≠ .readFailure := by
  unfold flagClass
  split_ifs <;> nofun

theorem flagClass_frameOf (t : FrameFields) (flt scv scg oc : BitVec 1) :
    flagClass (frameOf t flt scv scg oc) =
      if flt = 1#1 then
        if scv = 1#1 then .shortToVcc
        else if scg = 1#1 then .shortToGnd
        else if oc = 1#1 then .openCircuit
        else .unknown
      else .ok := by
  simp only [flagClass, ← extractLsb'_one, frameOf_flt, frameOf_scv, frameOf_scg, frameOf_oc]

/-- Row 1 covers the zero frame alone. -/
theorem readFailure_covers (f : Frame) : (frameRow .readFailure).covers f = true ↔ f = 0#32 := by
  have hall : f &&& 0xFFFFFFFF#32 = f := BitVec.and_allOnes
  simp [Row.covers, frameRow, hall]

/-- Rows 2 to 6 see the flag bits only, and each covers the frames of its own class. -/
theorem frameRow_covers {c : FaultCode} (hc : c ≠ .readFailure) (f : Frame) :
    (frameRow c).covers f = true ↔ flagClass f = c := by
  have hmask : 0x00010007#32 &&& (frameRow c).mask = (frameRow c).mask := by
    cases c with
    | readFailure => exact absurd rfl hc
    | _ => rfl
  rw [← frameOf_frameFields f, flagClass_frameOf, Row.covers,
    Laws.EncodingMatchesRow.frame_mask _ _ _ _ _ _ hmask]
  generalize f.extractLsb' 16 1 = flt, f.extractLsb' 2 1 = scv, f.extractLsb' 1 1 = scg,
    f.extractLsb' 0 1 = oc
  revert flt scv scg oc
  cases c with
  | readFailure => exact absurd rfl hc
  | _ => decide

/-- The first row that matches is row 1 for the zero frame and the row of the flag bits for any other. -/
theorem rowClass_eq (f : Frame) : rowClass f = if f = 0#32 then .readFailure else flagClass f := by
  unfold rowClass
  simp only [readFailure_covers, frameRow_covers, ne_eq, reduceCtorEq, not_false_eq_true]
  have hne := flagClass_ne_readFailure f
  cases h : flagClass f with
  | readFailure => exact absurd h hne
  | _ => rfl

theorem ne_zero_of_getLsbD {f : Frame} {i : Nat} (h : f.getLsbD i = true) : f ≠ 0#32 := by
  rintro rfl
  simp at h

/-- The row of a frame's class covers it (30 R77). -/
theorem rowClass_covers (f : Frame) : (frameRow (rowClass f)).covers f = true := by
  rw [rowClass_eq]
  split
  next h => exact (readFailure_covers f).2 h
  next => exact (frameRow_covers (flagClass_ne_readFailure f) f).2 rfl

/-- Row 1 meets no other row but row 6, and that at the zero frame (30 R74). -/
theorem readFailure_overlap {f : Frame} {d : FaultCode} (hf : f = 0#32) (hd : (frameRow d).covers f = true) :
    d = .readFailure ∨ d = .ok := by
  by_cases h : d = .readFailure
  · exact .inl h
  · exact .inr (by rw [← (frameRow_covers h f).1 hd, hf]; rfl)

/-- Settles O4: rows 2 to 6 are told apart by the class of the flag bits, and row 1 covers zero alone. -/
theorem frameRowsOverlapOnlyAtZero : Obligations.FrameRowsOverlapOnlyAtZero := by
  refine ⟨fun f c d hc hd => ?_, by decide, by decide, by decide, rowClass_covers, fun f h16 => ?_⟩
  · by_cases hcr : c = .readFailure
    · have hf : f = 0#32 := (readFailure_covers f).1 (hcr ▸ hc)
      exact (readFailure_overlap hf hd).imp (hcr.trans ·.symm) fun hdo => ⟨hf, .inl ⟨hcr, hdo⟩⟩
    by_cases hdr : d = .readFailure
    · have hf : f = 0#32 := (readFailure_covers f).1 (hdr ▸ hd)
      exact (readFailure_overlap hf hc).imp (·.trans hdr.symm) fun hco => ⟨hf, .inr ⟨hco, hdr⟩⟩
    exact .inl (((frameRow_covers hcr f).1 hc).symm.trans ((frameRow_covers hdr f).1 hd))
  · rw [rowClass_eq, if_neg (ne_zero_of_getLsbD h16), flagClass, if_pos h16]

/-! ### Command words (30 R80) -/

theorem cmdWordOf_fields (w : CmdWord) : cmdWordOf (opField w) (argField w) = w :=
  (BitVec.extractLsb'_append_extractLsb'_eq_extractLsb' (by rfl)).trans BitVec.extractLsb'_eq_self

@[simp] theorem opField_cmdWordOf (op : BitVec 2) (arg : BitVec 32) : opField (cmdWordOf op arg) = op :=
  BitVec.extractLsb'_append_eq_left

@[simp] theorem argField_cmdWordOf (op : BitVec 2) (arg : BitVec 32) : argField (cmdWordOf op arg) = arg :=
  BitVec.extractLsb'_append_eq_right

/-- All four values of `op` are defined (30 R84). -/
theorem op_cases (op : BitVec 2) : op = 0#2 ∨ op = 1#2 ∨ op = 2#2 ∨ op = 3#2 := by
  revert op
  decide

@[simp] theorem decodeCommand_init (arg : BitVec 32) : decodeCommand (cmdWordOf 0#2 arg) = .init arg := by
  simp [decodeCommand, cmdOf]

@[simp] theorem decodeCommand_trigread (arg : BitVec 32) :
    decodeCommand (cmdWordOf 1#2 arg) = .trigread arg := by
  simp [decodeCommand, cmdOf]

@[simp] theorem decodeCommand_decode (arg : BitVec 32) :
    decodeCommand (cmdWordOf 2#2 arg) = .decode arg := by
  simp [decodeCommand, cmdOf]

@[simp] theorem decodeCommand_decodei (f : Frame) : decodeCommand (cmdWordOf 3#2 f) = .decodei f := by
  simp [decodeCommand, cmdOf]

/-! ### The two directions of the encoding -/

/-- With the fault flag set, a frame has the class of its flag bits. -/
theorem rowClass_frameOf_flag (t : FrameFields) (scv scg oc : BitVec 1) :
    rowClass (frameOf t 1#1 scv scg oc) = flagClass (frameOf t 1#1 scv scg oc) := by
  have h16 : (frameOf t 1#1 scv scg oc).getLsbD 16 = true := by rw [← extractLsb'_one, frameOf_flt]
  rw [rowClass_eq, if_neg (ne_zero_of_getLsbD h16)]

/-- The frame of `FRAME.Ok` with these fields. -/
def okFrame (t : FrameFields) (low : BitVec 3) : Frame :=
  frameOf t 0#1 (low.extractLsb' 2 1) (low.extractLsb' 1 1) (low.extractLsb' 0 1)

theorem encode_frameOk (t : FrameFields) (low : BitVec 3) :
    encode (.frameOk t low) = .frame (okFrame t low) := rfl

@[simp] theorem frameFields_okFrame (t : FrameFields) (low : BitVec 3) : frameFields (okFrame t low) = t :=
  frameFields_frameOf ..

/-- Bits 2 to 0 of the frame are the three bits that `okFrame` puts there. -/
@[simp] theorem okFrame_low (t : FrameFields) (low : BitVec 3) : (okFrame t low).extractLsb' 0 3 = low := by
  apply BitVec.eq_of_getLsbD_eq
  intro i hi
  simp only [okFrame, frameOf, BitVec.getLsbD_append, BitVec.getLsbD_extractLsb']
  interval_cases i <;> simp

/-- The one ill-formed `FRAME.Ok` is the one whose frame is zero (30 R74; log 20). -/
theorem frameOk_wellFormed_iff (t : FrameFields) (low : BitVec 3) :
    (Instr.frameOk t low).wellFormed = true ↔ okFrame t low ≠ 0#32 := by
  have hzero : t = FrameFields.zero ∧ low = 0#3 ↔ okFrame t low = 0#32 := by
    constructor
    · rintro ⟨rfl, rfl⟩
      rfl
    · intro h
      exact ⟨by rw [← frameFields_okFrame t low, h]; rfl, by rw [← okFrame_low t low, h]; rfl⟩
  simp [Instr.wellFormed, ← hzero, imp_iff_not_or]

theorem rowClass_okFrame {t : FrameFields} {low : BitVec 3} (h : (Instr.frameOk t low).wellFormed = true) :
    rowClass (okFrame t low) = .ok := by
  rw [rowClass_eq, if_neg ((frameOk_wellFormed_iff t low).1 h), okFrame, flagClass_frameOf]
  rfl

/-- A frame without the fault flag is put together from its fields and its bits 2 to 0. -/
theorem okFrame_frameFields {f : Frame} (h : f.extractLsb' 16 1 = 0#1) :
    okFrame (frameFields f) (f.extractLsb' 0 3) = f := by
  simp (disch := decide) only [okFrame, BitVec.extractLsb'_extractLsb'_of_le]
  rw [← h, frameOf_frameFields]

/-- Settles O1: a word gives back the fields it is put together from, and its flag bits give its class. -/
theorem decodeOfEncodeIsTheInstruction : Obligations.DecodeOfEncodeIsTheInstruction := by
  intro i hi
  cases i with
  | init arg => exact decodeCommand_init arg
  | trigread arg => exact decodeCommand_trigread arg
  | decode arg => exact decodeCommand_decode arg
  | decodei f => exact decodeCommand_decodei f
  | frameReadFailure => rfl
  | frameOk t low =>
    rw [encode_frameOk]
    simp [decode, decodeFrame, rowClass_okFrame hi]
  | _ => simp [decode, encode, decodeFrame, rowClass_frameOf_flag, flagClass_frameOf]

/-- Every frame is the word of a well-formed instruction: the flag bits say which (30 R77). -/
theorem frame_is_encoded (f : Frame) : ∃ i : Instr, i.wellFormed = true ∧ encode i = .frame f := by
  by_cases h0 : f = 0#32
  · exact ⟨.frameReadFailure, rfl, by rw [h0]; rfl⟩
  obtain hflt | hflt := BitVec.eq_zero_or_eq_one (f.extractLsb' 16 1)
  · refine ⟨.frameOk (frameFields f) (f.extractLsb' 0 3), ?_, ?_⟩
    · rwa [frameOk_wellFormed_iff, okFrame_frameFields hflt]
    · rw [encode_frameOk, okFrame_frameFields hflt]
  rw [← frameOf_frameFields f, hflt]
  generalize frameFields f = t, f.extractLsb' 2 1 = scv, f.extractLsb' 1 1 = scg, f.extractLsb' 0 1 = oc
  obtain rfl | rfl := BitVec.eq_zero_or_eq_one scv
  · obtain rfl | rfl := BitVec.eq_zero_or_eq_one scg
    · obtain rfl | rfl := BitVec.eq_zero_or_eq_one oc
      · exact ⟨.frameUnknown t, rfl, rfl⟩
      · exact ⟨.frameOpenCircuit t, rfl, rfl⟩
    · exact ⟨.frameShortToGnd t oc, rfl, rfl⟩
  · exact ⟨.frameShortToVcc t scg oc, rfl, rfl⟩

/-- Every command word is the word of a command (30 R84). -/
theorem cmd_is_encoded (w : CmdWord) : ∃ i : Instr, i.wellFormed = true ∧ encode i = .cmd w := by
  rw [← cmdWordOf_fields w]
  rcases op_cases (opField w) with h | h | h | h <;> rw [h]
  · exact ⟨.init (argField w), rfl, rfl⟩
  · exact ⟨.trigread (argField w), rfl, rfl⟩
  · exact ⟨.decode (argField w), rfl, rfl⟩
  · exact ⟨.decodei (argField w), rfl, rfl⟩

/-- Settles O2: the word is that of a well-formed instruction, which decoding gives back. -/
theorem encodeOfDecodeIsTheWord : Obligations.EncodeOfDecodeIsTheWord := by
  intro e
  obtain ⟨i, hi, rfl⟩ : ∃ i : Instr, i.wellFormed = true ∧ encode i = e := by
    cases e with
    | cmd w => exact cmd_is_encoded w
    | frame f => exact frame_is_encoded f
  rw [decodeOfEncodeIsTheInstruction i hi]
  exact ⟨hi, rfl⟩

/-- Settles O3: the words are those of the test vectors V20, V32 and S8, and of the four commands. -/
theorem writtenOutWordsDecode : Obligations.WrittenOutWordsDecode := by
  unfold Obligations.WrittenOutWordsDecode
  decide

end Sys2Proof
end

section
/-!
The decoder's functions on the bits of a frame, and the statements about the commands that carry one.
-/

namespace Sys2Proof.Machine

/-! ### Which bits of a frame the decoder sees (30 R74 to R76) -/

/-- The tests of the pseudocode in their order are the zero test and the class of the flag bits (41 R143). -/
theorem classify_eq (f : Frame) : classify f = if f = 0#32 then .readFailure else flagClass f := by
  simp only [classify, flagClass, extract_one]

/-- The pseudocode and the mask and match rows give one class (41 R143). -/
theorem classify_eq_rowClass (f : Frame) : classify f = rowClass f := by
  rw [classify_eq, rowClass_eq]

/-- With bit 16 clear a nonzero frame is `Ok` (30 R76). -/
theorem classify_ok {f : Frame} (hf : f ≠ 0#32) (h16 : f.getLsbD 16 = false) : classify f = .ok := by
  rw [classify_eq, if_neg hf, flagClass, h16]
  rfl

/-- The class of a nonzero frame depends on bit 16 and bits 2 to 0 only (30 R74). -/
theorem classify_congr {f g : Frame} (hf : f ≠ 0#32) (hg : g ≠ 0#32)
    (h : ∀ i, i = 16 ∨ i ≤ 2 → f.getLsbD i = g.getLsbD i) : classify f = classify g := by
  rw [classify_eq, classify_eq, if_neg hf, if_neg hg, flagClass, flagClass, h 16 (by decide),
    h 2 (by decide), h 1 (by decide), h 0 (by decide)]

/-- A field depends on the bits of its range only (41 R141). -/
theorem extract_congr {f g : Frame} {pos w : Nat}
    (h : ∀ i, pos ≤ i → i < pos + w → f.getLsbD i = g.getLsbD i) : extract f pos w = extract g pos w := by
  apply BitVec.eq_of_getLsbD_eq
  intro i hi
  rw [extract_getLsbD, extract_getLsbD, h (pos + i) (by omega) (by omega)]

/-- The thermocouple count depends on bits 31 to 18 only (41 R148). -/
theorem tcCountOf_congr {f g : Frame} (signPos : BitVec 1)
    (h : ∀ i, 18 ≤ i → i < 32 → f.getLsbD i = g.getLsbD i) : tcCountOf signPos f = tcCountOf signPos g := by
  rw [tcCountOf, tcCountOf, extract_congr fun i hlo hhi => h i hlo (by omega),
    extract_congr fun i hlo hhi => h i (by omega) hhi]

/-- The cold-junction count depends on bits 15 to 4 only (41 R148). -/
theorem cjCountOf_congr {f g : Frame} (signPos : BitVec 1)
    (h : ∀ i, 4 ≤ i → i < 16 → f.getLsbD i = g.getLsbD i) : cjCountOf signPos f = cjCountOf signPos g := by
  rw [cjCountOf, cjCountOf, extract_congr fun i hlo hhi => h i hlo (by omega),
    extract_congr fun i hlo hhi => h i (by omega) hhi]

/-- The decoder's result depends on the class and the two counts only (41 R151). -/
theorem decodeReading_congr {f g : Frame} {signPos : BitVec 1} (hc : classify f = classify g)
    (htc : tcCountOf signPos f = tcCountOf signPos g) (hcj : cjCountOf signPos f = cjCountOf signPos g) :
    decodeReading signPos f = decodeReading signPos g := by
  rw [decodeReading, decodeReading, hc, htc, hcj]

theorem decodeReading_of_ok {f : Frame} (signPos : BitVec 1) (h : classify f = .ok) :
    decodeReading signPos f = .temps (tcCountOf signPos f) (cjCountOf signPos f) := by
  rw [decodeReading, h]

/-- Settles O11: bits 17 and 3 are in no field and no flag bit. -/
theorem reservedBitsAreIgnored : Obligations.ReservedBitsAreIgnored := by
  refine ⟨fun signPos f g hf hg h => ?_, fun signPos f hf h => ?_⟩
  · exact decodeReading_congr
      (classify_congr hf hg fun i hi => h i (by omega) (by omega) (by omega))
      (tcCountOf_congr signPos fun i hlo hhi => h i hhi (by omega) (by omega))
      (cjCountOf_congr signPos fun i hlo hhi => h i (by omega) (by omega) (by omega))
  · have hzero : ∀ i, i < 32 → i ≠ 17 → i ≠ 3 → f.getLsbD i = (0#32).getLsbD i := fun i hi h17 h3 => by
      rw [h i hi h17 h3, BitVec.getLsbD_zero]
    rw [decodeReading_of_ok signPos (classify_ok hf (h 16 (by decide) (by decide) (by decide))),
      tcCountOf_congr signPos fun i hlo hhi => hzero i hhi (by omega) (by omega),
      cjCountOf_congr signPos fun i hlo hhi => hzero i (by omega) (by omega) (by omega)]
    rfl

/-- Settles O12: with bit 16 clear both frames are `Ok`, and bits 2 to 0 are in no field. -/
theorem faultBitsAreIgnoredWithoutTheFlag : Obligations.FaultBitsAreIgnoredWithoutTheFlag := by
  refine ⟨fun signPos f g hf hg h16 h => ?_, by decide⟩
  have hg16 : g.getLsbD 16 = false := by rw [← h 16 (by decide) (by decide), h16]
  exact decodeReading_congr ((classify_ok hf h16).trans (classify_ok hg hg16).symm)
    (tcCountOf_congr signPos fun i hlo hhi => h i (by omega) hhi)
    (cjCountOf_congr signPos fun i hlo hhi => h i (by omega) (by omega))

/-! ### When a command is ready (30 R81) -/

section
variable (s : State)

theorem State.cmdReady_init : s.cmdReady .init = true ↔ s.phase = .off := by
  simp [State.cmdReady]

theorem State.cmdReady_trigread : s.cmdReady .trigread = true ↔ s.phase = .idle := by
  simp [State.cmdReady]

theorem State.cmdReady_decode :
    s.cmdReady .decode = true ↔ (s.phase = .off ∨ s.phase = .idle) ∧ s.rawValid = true := by
  simp [State.cmdReady]

theorem State.cmdReady_decodei : s.cmdReady .decodei = true ↔ s.phase = .off ∨ s.phase = .idle := by
  simp [State.cmdReady]

end

/-- Settles O25: the test of each command is its row of the table, and the refused branch only passes. -/
theorem commandNotReadyChangesNothing : Obligations.CommandNotReadyChangesNothing := by
  intro s arg
  refine ⟨s.cmdReady_init, s.cmdReady_trigread, s.cmdReady_decode, s.cmdReady_decodei,
    fun h => ?_, fun h => ?_, fun h => ?_, fun h => ?_⟩
  · simp [exec, execInit, h, State.pass]
  · simp [exec, execTrigread, h, State.pass]
  · simp [exec, execDecode, h, State.pass]
  · simp [exec, execDecodei, h, State.pass]

/-! ### The instruction of a frame (30 R73, 41 R151) -/

/-- The frame instruction that the mask and match decoder reads completes with the result of the
decoder's pseudocode: the classes agree, and the operands of `FRAME.Ok` are the fields extracted. -/
theorem exec_decodeFrame (f : Frame) (s : State) :
    exec (decodeFrame f) s = .next (s.completeDecode (decodeReading s.cfg.signPos f)) := by
  unfold decodeFrame decodeReading
  rw [classify_eq_rowClass]
  cases rowClass f <;> rfl

theorem exec_decodei (f : Frame) {s : State} (hp : s.phase = .off ∨ s.phase = .idle) :
    exec (.decodei f) s = .next (s.completeDecode (decodeReading s.cfg.signPos f)) := by
  simp only [exec, execDecodei, if_pos (s.cmdReady_decodei.2 hp)]

theorem exec_decode (arg : BitVec 32) {f : Frame} {s : State} (hp : s.phase = .off ∨ s.phase = .idle)
    (hv : s.rawValid = true) (hf : s.rawframe = some f) :
    exec (.decode arg) s = .next (s.completeDecode (decodeReading s.cfg.signPos f)) := by
  simp only [exec, execDecode, if_pos (s.cmdReady_decode.2 ⟨hp, hv⟩), hf]

/-- Settles O19: all three complete with the decoder's result for the frame. -/
theorem commandRunsTheInstructionOfItsFrame : Obligations.CommandRunsTheInstructionOfItsFrame := by
  intro f s hp
  rw [exec_decodeFrame]
  exact ⟨exec_decodei f hp, fun arg hv hf => exec_decode arg hp hv hf⟩

/-! ### The step that runs a command (30 R80) -/

/-- Settles O39: without reset and between commands the step takes its last branch. -/
theorem stepRunsTheOfferedCommand : Obligations.StepRunsTheOfferedCommand := by
  intro s hr hp hv
  have hb : s.busy = false := s.not_busy_iff.2 hp
  simp [step, hr, hb, State.offered, hv]

/-- A table word is a frame, brought by the DECODEI that carries it, or a command word (log 11, log 14). -/
theorem decodeTableWord_cases {nbits w : Nat} {i : Instr} (h : decodeTableWord nbits w = some i) :
    (∃ f, i = decodeFrame f ∧ carrier nbits w = cmdWordOf 3#2 f) ∨ i = decodeCommand (carrier nbits w) := by
  unfold decodeTableWord decodeBits at h
  split_ifs at h with hn
  · exact .inl ⟨BitVec.ofNat 32 w, (Option.some.inj h).symm, if_pos hn⟩
  · rw [carrier, if_neg hn]
    exact .inr (Option.some.inj h).symm

theorem State.settleDown_phase (s : State) : s.settleDown.phase = .off ∨ s.settleDown.phase = .idle := by
  unfold State.settleDown
  split
  next => exact .inr rfl
  next h => exact s.not_busy_iff.1 (by simpa using h)

/-- A placed word is run between commands, as the command that carries it (log 13). -/
theorem step_withFetchWord (s : State) (nbits w : Nat) :
    step (s.withFetchWord nbits w) = exec (decodeCommand (carrier nbits w)) (s.withFetchWord nbits w) :=
  stepRunsTheOfferedCommand (s.withFetchWord nbits w) rfl s.settleDown_phase rfl

/-- Settles O40: a command word carries itself, and the DECODEI that carries a frame does what the frame
instruction does. -/
theorem placedWordIsRunNext : Obligations.PlacedWordIsRunNext := by
  intro s nbits w i hi
  rw [step_withFetchWord]
  rcases decodeTableWord_cases hi with ⟨f, rfl, hc⟩ | rfl
  · rw [hc, decodeCommand_decodei]
    exact (commandRunsTheInstructionOfItsFrame f _ s.settleDown_phase).1
  · rfl

/-- Settles O51: of the step rules of the four busy phases, those that respond are those that lead to
P_IDLE. -/
theorem responseExactlyAtCompletion : Obligations.ResponseExactlyAtCompletion := by
  intro s t hr hb h
  obtain ⟨hoff, hidle⟩ : s.phase ≠ .off ∧ s.phase ≠ .idle := by
    rcases hb with hp | hp | hp | hp <;> simp [hp]
  cases step_transition h with
  | reset hrst => simp [hr] at hrst
  | stepIN1 _ _ hp => exact absurd hp hoff
  | stepINE _ _ hp => exact absurd hp hoff
  | stepTR1 _ _ hp => exact absurd hp hidle
  | decodes _ _ hp => exact absurd hp (not_or.2 ⟨hoff, hidle⟩)
  | passes _ hp => exact absurd hp (not_or.2 ⟨hoff, hidle⟩)
  | stepIN2 => exact iff_of_true rfl rfl
  | stepTR5 => exact iff_of_true rfl rfl
  | stepTRE => exact iff_of_true rfl rfl
  | stepTR2 => exact iff_of_false nofun nofun
  | stepTR3 => exact iff_of_false nofun nofun
  | _ => exact iff_of_false nofun hidle

end Sys2Proof.Machine
end

section
/-!
The steps of spec/40_bus_transactor.md, one at a time: the state each leads to once it is enabled, and
what the accepting steps leave alone.
-/

namespace Sys2Proof.Machine

/-! ### The steps that accept INIT and TRIGREAD, or refuse INIT the bus -/

theorem exec_init_of_busAvail (arg : BitVec 32) {s : State} (hp : s.phase = .off)
    (hv : s.inputs.busAvail = true) : exec (.init arg) s = .next s.pass.stepIN1 := by
  simp only [exec, execInit, if_pos (s.cmdReady_init.2 hp), if_pos hv]

theorem exec_init_of_not_busAvail (arg : BitVec 32) {s : State} (hp : s.phase = .off)
    (hv : s.inputs.busAvail = false) : exec (.init arg) s = .next (s.pass.raise .initError) := by
  simp only [exec, execInit, if_pos (s.cmdReady_init.2 hp), hv, Bool.false_eq_true, if_false]

theorem exec_trigread_of_idle (arg : BitVec 32) {s : State} (hp : s.phase = .idle) :
    exec (.trigread arg) s = .next s.pass.stepTR1 := by
  simp only [exec, execTrigread, if_pos (s.cmdReady_trigread.2 hp)]

/-- Settles O22: the accepted branch of INIT is step IN1, whose writes are those named. -/
theorem initClaimsTheBus : Obligations.InitClaimsTheBus :=
  fun arg _ hp hv => exec_init_of_busAvail arg hp hv

/-- Settles O23: the branch of INIT without the bus is step IN-E, whose writes are those named. -/
theorem initErrorWritesOnlyStatus : Obligations.InitErrorWritesOnlyStatus :=
  fun arg _ hp hv => exec_init_of_not_busAvail arg hp hv

/-- Settles O24: the accepted branch of TRIGREAD is step TR1, whose writes are those named. -/
theorem trigreadBeginsTheTriggerPulse : Obligations.TrigreadBeginsTheTriggerPulse :=
  fun arg _ hp => exec_trigread_of_idle arg hp

/-- Settles O26: in each case of the two commands the registers named are not written. -/
theorem busCommandsLeaveTheResultsAlone : Obligations.BusCommandsLeaveTheResultsAlone := by
  intro arg s t
  refine ⟨fun h => ?_, fun h => ?_⟩
  · rcases h with h | h
    · rcases exec_init_cases h with ⟨-, -, rfl⟩ | ⟨-, -, rfl⟩ | ⟨-, rfl⟩ <;>
        exact ⟨⟨rfl, rfl, rfl, rfl, rfl, rfl, rfl⟩, rfl, rfl, rfl, rfl, rfl, rfl, rfl, rfl, rfl⟩
    · rcases exec_trigread_cases h with ⟨-, rfl⟩ | ⟨-, rfl⟩ <;>
        exact ⟨⟨rfl, rfl, rfl, rfl, rfl, rfl, rfl⟩, rfl, rfl, rfl, rfl, rfl, rfl, rfl, rfl, rfl⟩
  · rcases exec_trigread_cases h with ⟨-, rfl⟩ | ⟨-, rfl⟩ <;> exact ⟨rfl, rfl⟩

/-! ### The step of each busy phase (40 R100) -/

theorem step_of_busy {s : State} (hr : s.inputs.rst = false) (hb : s.busy = true) :
    step s = .next s.sequence := by
  simp [step, hr, hb]

section
variable {s : State}

theorem step_of_pwrup (hp : s.phase = .pwrup) (hr : s.inputs.rst = false) :
    step s = .next (s.waitStep s.cfg.tPowerup State.stepIN2) := by
  rw [step_of_busy hr (by simp [s.busy_iff, hp]), State.sequence, hp]

theorem step_of_trig (hp : s.phase = .trig) (hr : s.inputs.rst = false) :
    step s = .next (s.waitStep s.cfg.tTrig State.stepTR2) := by
  rw [step_of_busy hr (by simp [s.busy_iff, hp]), State.sequence, hp]

theorem step_of_settle (hp : s.phase = .settle) (hr : s.inputs.rst = false) :
    step s = .next (s.waitStep s.cfg.tSettle (State.settled s.inputs.busFail)) := by
  rw [step_of_busy hr (by simp [s.busy_iff, hp]), State.sequence, hp]

theorem step_of_read (hp : s.phase = .read) (hr : s.inputs.rst = false) :
    step s = .next (if s.inputs.proceed then s.readStep else s.passClock) := by
  rw [step_of_busy hr (by simp [s.busy_iff, hp]), State.sequence, hp]

end

/-! ### A step of P_READ by its enabling condition (40 R109 to R111, log 21) -/

section
variable {s : State}

theorem State.readStep_of_bitcnt_32 (hb : s.bitcnt = 32#6) :
    s.readStep = if s.releaseDue then s.pass.stepTR5 else s.passClock := by
  simp [State.readStep, hb]

theorem State.readStep_of_sck_low (hb : s.bitcnt < 32#6) (hk : s.sck = false) :
    s.readStep = if s.bitDue then if s.inputs.busFail then s.pass.raise .busError else s.pass.stepTR4Rise
      else s.passClock := by
  simp [State.readStep, BitVec.ne_of_lt hb, hb, hk]

/-- The falling edge of a clock period, with what its step reads: the free value and the bit sampled. -/
def State.clockFall (s : State) : State :=
  s.passClock.stepTR4Fall (Config.freeShift s.draws) s.sampledBit

theorem State.readStep_of_sck_high (hb : s.bitcnt < 32#6) (hk : s.sck = true) :
    s.readStep = s.clockFall := by
  simp [State.readStep, BitVec.ne_of_lt hb, hb, hk, State.clockFall]

end

/-! ### The steps of the sequencer, once enabled -/

section
variable {s : State} (hm : s.inputs.moves)
include hm

theorem step_stepIN2 (hp : s.phase = .pwrup) (hw : s.cfg.tPowerup ≤ s.timer + s.inputs.elapsed) :
    step s = .next s.pass.stepIN2 := by
  rw [step_of_pwrup hp hm.1, State.waitStep_done _ s hm.2 hw]

theorem step_stepTR2 (hp : s.phase = .trig) (hw : s.cfg.tTrig ≤ s.timer + s.inputs.elapsed) :
    step s = .next s.pass.stepTR2 := by
  rw [step_of_trig hp hm.1, State.waitStep_done _ s hm.2 hw]

theorem step_settled (hp : s.phase = .settle) (hw : s.cfg.tSettle ≤ s.timer + s.inputs.elapsed) :
    step s = .next (s.pass.settled s.inputs.busFail) := by
  rw [step_of_settle hp hm.1, State.waitStep_done _ s hm.2 hw]

theorem step_readStep (hp : s.phase = .read) : step s = .next s.readStep := by
  rw [step_of_read hp hm.1, if_pos hm.2]

theorem step_stepTR4Rise (hp : s.phase = .read) (hb : s.bitcnt < 32#6) (hk : s.sck = false)
    (hd : s.bitDue = true) (hf : s.inputs.busFail = false) : step s = .next s.pass.stepTR4Rise := by
  simp [step_readStep hm hp, State.readStep_of_sck_low hb hk, hd, hf]

theorem step_clockFall (hp : s.phase = .read) (hb : s.bitcnt < 32#6) (hk : s.sck = true) :
    step s = .next s.clockFall := by
  rw [step_readStep hm hp, State.readStep_of_sck_high hb hk]

theorem step_stepTR5 (hp : s.phase = .read) (hb : s.bitcnt = 32#6) (hd : s.releaseDue = true) :
    step s = .next s.pass.stepTR5 := by
  rw [step_readStep hm hp, State.readStep_of_bitcnt_32 hb, if_pos hd]

theorem step_stepTRE_of_settle (hf : s.inputs.busFail = true) (hp : s.phase = .settle)
    (hw : s.cfg.tSettle ≤ s.timer + s.inputs.elapsed) : step s = .next (s.pass.raise .busError) := by
  rw [step_settled hm hp hw, hf, State.settled, if_pos rfl]

theorem step_stepTRE_of_read (hf : s.inputs.busFail = true) (hp : s.phase = .read)
    (hb : s.bitcnt < 32#6) (hk : s.sck = false) (hd : s.bitDue = true) :
    step s = .next (s.pass.raise .busError) := by
  simp [step_readStep hm hp, State.readStep_of_sck_low hb hk, hd, hf]

end

/-- Settles O27: the power-up wait ends in step IN2, whose writes are those named. -/
theorem powerUpDelayEndsInIdle : Obligations.PowerUpDelayEndsInIdle :=
  fun _ hp hm hw => step_stepIN2 hm hp hw

/-- Settles O28: the trigger wait ends in step TR2, whose writes are those named. -/
theorem triggerPulseEndsInSettle : Obligations.TriggerPulseEndsInSettle :=
  fun _ hp hm hw => step_stepTR2 hm hp hw

/-- Settles O29: without a failure the settle wait ends in step TR3, whose writes are those named. -/
theorem settleEndsInRead : Obligations.SettleEndsInRead := by
  intro s hp hm hf hw
  rw [step_settled hm hp hw, hf]
  rfl

/-- Settles O32: with BITCNT = 32 the step of P_READ is TR5, in which no failure is drawn. -/
theorem completeFrameIsDelivered : Obligations.CompleteFrameIsDelivered :=
  fun s hp hb hm hperiod hlag => step_stepTR5 hm hp hb (s.releaseDue_iff.2 ⟨hperiod, hlag⟩)

/-- Settles O33: in place of TR3 and in place of a due bit the step is TR-E, whose writes are those named. -/
theorem busFailureReleasesTheBus : Obligations.BusFailureReleasesTheBus := by
  rintro s hm hf (⟨hp, hw⟩ | ⟨hp, hb, hk, hlead, hperiod⟩)
  · exact step_stepTRE_of_settle hm hf hp hw
  · exact step_stepTRE_of_read hm hf hp hb hk (s.bitDue_iff.2 ⟨hlead, hperiod⟩)

/-- In P_READ with no edge due only time passes, whether or not the sequencer is held. -/
theorem step_passClock {s : State} (hp : s.phase = .read) (hr : s.inputs.rst = false)
    (h : s.readStep = s.passClock) : step s = .next s.passClock := by
  rw [step_of_read hp hr, h, ite_self]

/-- Settles O57: in each of the three cases the edge that P_READ would make next is not due. -/
theorem clockEdgesKeepTheirSpacing : Obligations.ClockEdgesKeepTheirSpacing := by
  intro s hr hp h
  refine step_passClock hp hr ?_
  rcases h with ⟨hb, hk, hlead⟩ | ⟨hb, hlt, hk, hperiod⟩ | ⟨hb, hearly⟩
  · have hdue : ¬ s.bitDue = true := fun hd => absurd ((s.bitDue_iff.1 hd).1 hb) (by omega)
    rw [State.readStep_of_sck_low (by rw [hb]; decide) hk, if_neg hdue]
  · have hdue : ¬ s.bitDue = true := fun hd => absurd ((s.bitDue_iff.1 hd).2 hb) (by omega)
    rw [State.readStep_of_sck_low hlt hk, if_neg hdue]
  · have hdue : ¬ s.releaseDue = true := fun hd => by
      obtain ⟨hperiod, hlag⟩ := s.releaseDue_iff.1 hd
      omega
    rw [State.readStep_of_bitcnt_32 hb, if_neg hdue]

/-! ### One clock period (40 R109, log 7) -/

theorem core_run_succ {M : Host.Core} {s t : M.State} (n : Nat) (h : M.step s = .next t) :
    M.run (n + 1) s = M.run n t := by
  simp only [Host.Core.run, h]

theorem run_succ_of_step (n : Nat) {s t : State} (h : step s = .next t) : run (n + 1) s = run n t :=
  core_run_succ (M := Sys2Proof.core) n h

theorem run_one {s t : State} (h : step s = .next t) : run 1 s = .next t :=
  run_succ_of_step 0 h

/-- The two edges of a clock period, from the inputs of each. -/
theorem State.clockFall_stepTR4Rise {s : State} {i j : Inputs} {rest : List Inputs}
    (he : s.env = i :: j :: rest) :
    s.pass.stepTR4Rise.clockFall =
      { s with
        sck := false
        shift := some (shiftIn (s.shift.getD (Config.freeShift (s.draws + 1))) s.pass.stepTR4Rise.sampledBit)
        bitcnt := s.bitcnt + 1#6
        clkTime := j.elapsed, edgeTime := 0
        rsp := none, env := rest, draws := s.draws + 2 } := by
  have hj : s.pass.stepTR4Rise.inputs = j := State.inputs_cons _ j rest (by simp [he])
  simp [State.clockFall, State.stepTR4Fall, State.passClock, hj, he]

/-- The bit of a clock period is the level of `SO` at its falling edge, within the clock's bound. -/
theorem State.sampledBit_stepTR4Rise {s : State} {i j : Inputs} {rest : List Inputs}
    (he : s.env = i :: j :: rest) (hc : s.cfg.fSck ≤ 5000000) : s.pass.stepTR4Rise.sampledBit = j.so := by
  have hj : s.pass.stepTR4Rise.inputs = j := State.inputs_cons _ j rest (by simp [he])
  rw [State.sampledBit_of_le s.pass.stepTR4Rise hc, hj]

/-- The two steps of a clock period whose bit is due. -/
theorem step_clockPeriod {s : State} {p : ClockPeriod} {rest : List Inputs}
    (he : s.env = p.1 :: p.2 :: rest) (hp : s.phase = .read) (hb : s.bitcnt < 32#6)
    (hk : s.sck = false) (hd : s.bitDue = true) (hg : p.good) :
    step s = .next s.pass.stepTR4Rise ∧
    step s.pass.stepTR4Rise = .next s.pass.stepTR4Rise.clockFall := by
  obtain ⟨hrise, hf, hfall⟩ := hg
  have hi : s.inputs = p.1 := State.inputs_cons s p.1 _ he
  have hj : s.pass.stepTR4Rise.inputs = p.2 := State.inputs_cons _ p.2 rest (by simp [he])
  exact ⟨step_stepTR4Rise (hi ▸ hrise) hp hb hk hd (hi ▸ hf), step_clockFall (hj ▸ hfall) hp hb rfl⟩

/-- Settles O31: the two steps of the clock period. -/
theorem oneBitIsClockedIn : Obligations.OneBitIsClockedIn := by
  intro s i j rest hp hb hk he hi hf hj hlead hperiod
  have hin : s.inputs = i := State.inputs_cons s i _ he
  have hd : s.bitDue = true := s.bitDue_iff.2 (by rw [hin]; exact ⟨hlead, hperiod⟩)
  obtain ⟨hrise, hfall⟩ := step_clockPeriod (p := (i, j)) he hp hb hk hd ⟨hi, hf, hj⟩
  refine ⟨?_, s.shift.getD (Config.freeShift (s.draws + 1)), s.pass.stepTR4Rise.sampledBit,
    fun v hv => by simp [hv], State.sampledBit_stepTR4Rise he, ?_⟩
  · rw [hrise]
    simp [State.pass, State.stepTR4Rise, he]
  · rw [run_succ_of_step 1 hrise, run_one hfall, State.clockFall_stepTR4Rise he]
    rfl

end Sys2Proof.Machine
end

section
/-!
A read transaction forgets what earlier commands left (40 R115): every operation takes two states that
`SameTransaction` relates to two states it relates.
-/

namespace Sys2Proof.Machine

theorem SameTransaction.refl (s : State) : SameTransaction s s :=
  ⟨rfl, rfl, rfl, rfl, rfl, rfl, rfl, rfl, rfl, rfl, fun _ => rfl⟩

theorem SameTransaction.symm {s t : State} (h : SameTransaction s t) : SameTransaction t s :=
  ⟨h.cfg.symm, h.phase.symm, h.csN.symm, h.sck.symm, h.timer.symm, h.clkTime.symm, h.edgeTime.symm,
    h.env.symm, h.draws.symm, h.shift.symm, fun hp => (h.bits (h.phase.trans hp)).symm⟩

theorem SameTransaction.trans {s t u : State} (h : SameTransaction s t) (h' : SameTransaction t u) :
    SameTransaction s u :=
  ⟨h.cfg.trans h'.cfg, h.phase.trans h'.phase, h.csN.trans h'.csN, h.sck.trans h'.sck,
    h.timer.trans h'.timer, h.clkTime.trans h'.clkTime, h.edgeTime.trans h'.edgeTime,
    h.env.trans h'.env, h.draws.trans h'.draws, h.shift.trans h'.shift,
    fun hp => (h.bits hp).trans (h'.bits (h.phase.symm.trans hp))⟩

/-- A decode moves nothing of the transaction, so it leaves the same as a step that only passes. -/
theorem SameTransaction.completeDecode (s : State) (r : Decoded) :
    SameTransaction (s.completeDecode r) s.pass := by
  constructor <;> simp

section
variable {s t : State} (h : SameTransaction s t)
include h

/-! ### What a step reads is the same -/

theorem SameTransaction.inputs : s.inputs = t.inputs := by
  simp only [State.inputs, h.env, h.draws]

theorem SameTransaction.offered : s.offered = t.offered := by
  simp only [State.offered, h.inputs]

theorem SameTransaction.busy : s.busy = t.busy := by
  simp only [State.busy, h.phase]

theorem SameTransaction.cmdReady_init : s.cmdReady .init = t.cmdReady .init := by
  simp only [State.cmdReady, h.phase]

theorem SameTransaction.cmdReady_trigread : s.cmdReady .trigread = t.cmdReady .trigread := by
  simp only [State.cmdReady, h.phase]

theorem SameTransaction.releaseDue : s.releaseDue = t.releaseDue := by
  simp only [State.releaseDue, h.cfg, h.clkTime, h.edgeTime, h.inputs]

theorem SameTransaction.sampledBit : s.sampledBit = t.sampledBit := by
  simp only [State.sampledBit, h.cfg, h.inputs, h.draws]

theorem SameTransaction.bitDue (hp : s.phase = .read) : s.bitDue = t.bitDue := by
  simp only [State.bitDue, h.bits hp, h.cfg, h.clkTime, h.edgeTime, h.inputs]

/-! ### What an operation leaves is the same -/

theorem SameTransaction.onReset : SameTransaction s.onReset t.onReset := by
  constructor <;> simp [h.cfg, h.env, h.draws]

theorem SameTransaction.pass : SameTransaction s.pass t.pass :=
  { h with env := congrArg List.tail h.env, draws := congrArg (· + 1) h.draws }

theorem SameTransaction.passTime : SameTransaction s.passTime t.passTime :=
  { h.pass with timer := by simp [h.timer, h.inputs] }

theorem SameTransaction.passClock : SameTransaction s.passClock t.passClock :=
  { h.pass with
    clkTime := by simp [h.clkTime, h.inputs]
    edgeTime := by simp [h.edgeTime, h.inputs] }

theorem SameTransaction.raise_initError : SameTransaction (s.raise .initError) (t.raise .initError) :=
  { h with }

theorem SameTransaction.raise_busError : SameTransaction (s.raise .busError) (t.raise .busError) :=
  ⟨h.cfg, rfl, rfl, rfl, rfl, rfl, rfl, h.env, h.draws, rfl, nofun⟩

theorem SameTransaction.stepIN1 : SameTransaction s.stepIN1 t.stepIN1 :=
  { h with phase := rfl, csN := rfl, sck := rfl, timer := rfl, bits := nofun }

theorem SameTransaction.stepIN2 : SameTransaction s.stepIN2 t.stepIN2 :=
  { h with phase := rfl, timer := rfl, bits := nofun }

theorem SameTransaction.stepTR1 : SameTransaction s.stepTR1 t.stepTR1 :=
  { h with phase := rfl, csN := rfl, timer := rfl, bits := nofun }

theorem SameTransaction.stepTR2 : SameTransaction s.stepTR2 t.stepTR2 :=
  { h with phase := rfl, csN := rfl, timer := rfl, bits := nofun }

/-- TR3 clears BITCNT, so a count that was left over does not enter P_READ. -/
theorem SameTransaction.stepTR3 : SameTransaction s.stepTR3 t.stepTR3 :=
  { h with phase := rfl, csN := rfl, timer := rfl, clkTime := rfl, edgeTime := rfl, bits := fun _ => rfl }

theorem SameTransaction.stepTR4Rise : SameTransaction s.stepTR4Rise t.stepTR4Rise :=
  { h with sck := rfl, clkTime := rfl, edgeTime := rfl }

theorem SameTransaction.clockFall : SameTransaction s.clockFall t.clockFall :=
  { h.passClock with
    sck := rfl
    edgeTime := rfl
    shift := by simp [State.clockFall, h.shift, h.draws, h.sampledBit]
    bits := fun hp => congrArg (· + 1#6) (h.bits hp) }

theorem SameTransaction.stepTR5 : SameTransaction s.stepTR5 t.stepTR5 :=
  { h with phase := rfl, csN := rfl, clkTime := rfl, edgeTime := rfl, shift := rfl, bits := nofun }

theorem SameTransaction.settled (fail : Bool) : SameTransaction (s.settled fail) (t.settled fail) := by
  cases fail
  · exact h.stepTR3
  · exact h.raise_busError

theorem SameTransaction.waitStep (bound : Nat) {done : State → State}
    (hd : SameTransaction (done s.pass) (done t.pass)) :
    SameTransaction (s.waitStep bound done) (t.waitStep bound done) := by
  unfold State.waitStep
  rw [← h.inputs, ← h.timer]
  split
  · exact hd
  · exact h.passTime

theorem SameTransaction.readStep (hp : s.phase = .read) : SameTransaction s.readStep t.readStep := by
  unfold State.readStep
  rw [← h.bits hp, ← h.releaseDue, ← h.sck, ← h.bitDue hp, ← h.inputs]
  split_ifs
  · exact h.pass.stepTR5
  · exact h.passClock
  · exact h.clockFall
  · exact h.pass.raise_busError
  · exact h.pass.stepTR4Rise
  · exact h.passClock
  · exact h.passClock

theorem SameTransaction.sequence : SameTransaction s.sequence t.sequence := by
  unfold State.sequence
  rw [← h.phase, ← h.cfg, ← h.inputs]
  cases hp : s.phase with
  | off => exact h.pass
  | idle => exact h.pass
  | pwrup => exact h.waitStep _ h.pass.stepIN2
  | trig => exact h.waitStep _ h.pass.stepTR2
  | settle => exact h.waitStep _ (h.pass.settled _)
  | read =>
    simp only
    split
    · exact h.readStep hp
    · exact h.passClock

end

/-! ### The commands -/

section
variable {s t s' t' : State} (h : SameTransaction s t)
include h

theorem SameTransaction.exec_init {arg : BitVec 32} (hs : exec (.init arg) s = .next s')
    (ht : exec (.init arg) t = .next t') : SameTransaction s' t' := by
  simp only [exec, execInit, ← h.cmdReady_init, ← h.inputs] at hs ht
  cases hs
  cases ht
  split_ifs
  · exact h.pass.stepIN1
  · exact h.pass.raise_initError
  · exact h.pass

theorem SameTransaction.exec_trigread {arg : BitVec 32} (hs : exec (.trigread arg) s = .next s')
    (ht : exec (.trigread arg) t = .next t') : SameTransaction s' t' := by
  simp only [exec, execTrigread, ← h.cmdReady_trigread] at hs ht
  cases hs
  cases ht
  split_ifs
  · exact h.pass.stepTR1
  · exact h.pass

end

theorem exec_decode_sameTransaction {arg : BitVec 32} {s t : State}
    (h : exec (.decode arg) s = .next t) : SameTransaction t s.pass := by
  rcases exec_decode_cases h with ⟨f, -, -, rfl⟩ | rfl
  · exact .completeDecode s _
  · exact .refl _

theorem exec_decodei_sameTransaction {f : Frame} {s t : State}
    (h : exec (.decodei f) s = .next t) : SameTransaction t s.pass := by
  rcases exec_decodei_cases h with rfl | rfl
  · exact .completeDecode s _
  · exact .refl _

theorem SameTransaction.of_step {s t s' t' : State} (h : SameTransaction s t)
    (hs : step s = .next s') (ht : step t = .next t') : SameTransaction s' t' := by
  unfold step at hs ht
  rw [← h.inputs, ← h.busy, ← h.offered] at ht
  split_ifs at hs ht
  · cases hs; cases ht
    exact h.onReset
  · cases hs; cases ht
    exact h.sequence
  · cases ho : s.offered with
    | none =>
      simp only [ho] at hs ht
      cases hs; cases ht
      exact h.sequence
    | some i =>
      simp only [ho] at hs ht
      rcases State.offered_command ho with ⟨arg, rfl⟩ | ⟨arg, rfl⟩ | ⟨arg, rfl⟩ | ⟨f, rfl⟩
      · exact h.exec_init hs ht
      · exact h.exec_trigread hs ht
      · exact (exec_decode_sameTransaction hs).trans
          (h.pass.trans (exec_decode_sameTransaction ht).symm)
      · exact (exec_decodei_sameTransaction hs).trans
          (h.pass.trans (exec_decodei_sameTransaction ht).symm)

/-- The two ends of a read transaction: TR5 with the frame, or TR-E before it (40 R110, R111). -/
theorem Transition.endsRead {s t : State} (ht : Transition s t)
    (hp : s.phase = .settle ∨ s.phase = .read) (hi : t.phase = .idle) :
    (s.phase = .read ∧ s.bitcnt = 32#6 ∧ t.status = .ok ∧ t.rsp = some ⟨.ok, s.shift⟩ ∧
      t.rawframe = s.shift ∧ t.rawValid = true) ∨
    ((s.phase = .read → s.bitcnt ≠ 32#6) ∧ t.status = .busError ∧ t.rsp = some ⟨.busError, none⟩) := by
  obtain ⟨hoff, hpwrup, hidle⟩ : s.phase ≠ .off ∧ s.phase ≠ .pwrup ∧ s.phase ≠ .idle := by
    rcases hp with hp | hp <;> simp [hp]
  cases ht with
  | stepTR5 _ hr _ hb => exact .inl ⟨hr, hb, rfl, rfl, rfl, rfl⟩
  | stepTRE _ _ _ hc =>
    refine .inr ⟨fun hr hb => ?_, rfl, rfl⟩
    rcases hc with ⟨hc, -⟩ | ⟨-, hlt, -⟩
    · simp [hr] at hc
    · exact BitVec.ne_of_lt hlt hb
  | stepINE _ _ hc => exact absurd hc hoff
  | stepIN2 _ hc => exact absurd hc hpwrup
  | decodes _ _ hc => exact absurd hc (not_or.2 ⟨hoff, hidle⟩)
  | passes _ hc => exact absurd hc (not_or.2 ⟨hoff, hidle⟩)
  | waits => exact absurd hi hidle
  | clockWaits => exact absurd hi hidle
  | stepTR4Rise => exact absurd hi hidle
  | stepTR4Fall => exact absurd hi hidle
  | _ => cases hi

/-- Settles O55: the operations keep `SameTransaction`, and both reads end by the same rule, since that
rule is told by PHASE and BITCNT. -/
theorem readsForgetEarlierCommands : Obligations.ReadsForgetEarlierCommands := by
  intro s₁ s₂ t₁ t₂ h h₁ h₂
  have ht : SameTransaction t₁ t₂ := h.of_step h₁ h₂
  refine ⟨ht, fun hp hi => ?_⟩
  have end₁ := (step_transition h₁).endsRead hp hi
  have end₂ := (step_transition h₂).endsRead (h.phase ▸ hp) (ht.phase ▸ hi)
  rcases end₁ with ⟨hr, hb, hst, hrsp, hraw, hval⟩ | ⟨hnot, hst, hrsp⟩ <;>
    rcases end₂ with ⟨hr', hb', hst', hrsp', hraw', hval'⟩ | ⟨hnot', hst', hrsp'⟩
  · exact ⟨hst.trans hst'.symm, by rw [hrsp, hrsp', h.shift],
      fun _ _ => ⟨by rw [hraw, hraw', h.shift], hval, hval'⟩⟩
  · exact absurd ((h.bits hr).symm.trans hb) (hnot' (h.phase ▸ hr))
  · have hr : s₁.phase = .read := h.phase.trans hr'
    exact absurd ((h.bits hr).trans hb') (hnot hr)
  · exact ⟨hst.trans hst'.symm, hrsp.trans hrsp'.symm, fun hr hb => absurd hb (hnot hr)⟩

end Sys2Proof.Machine
end

section
/-!
INIT and TRIGREAD as a whole (40 R101, R105, R112, R113): runs put together from the single steps, and the
clock periods of a read by induction, the last period taken off.
-/

namespace Sys2Proof.Machine

/-! ### Runs with the edges they make -/

/-- `n` steps lead from `s` to `t` and make the edges `es`. -/
inductive Runs : Nat → State → List PinEvent → State → Prop where
  | refl (s : State) : Runs 0 s [] s
  | head {n : Nat} {s t u : State} {es : List PinEvent} (h : step s = .next t) (hr : Runs n t es u) :
      Runs (n + 1) s (pinEdges s t ++ es) u

theorem Runs.run_eq {n : Nat} {s t : State} {es : List PinEvent} (h : Runs n s es t) :
    run n s = .next t := by
  induction h with
  | refl => rfl
  | head h _ ih => rw [run_succ_of_step _ h, ih]

theorem Runs.pinTrace_eq {n : Nat} {s t : State} {es : List PinEvent} (h : Runs n s es t) :
    pinTrace n s = es := by
  induction h with
  | refl => rfl
  | head h _ ih => simp only [pinTrace, h, ih]

theorem Runs.single {s t : State} {es : List PinEvent} (h : step s = .next t) (he : pinEdges s t = es) :
    Runs 1 s es t := by
  have hr := Runs.head h (.refl t)
  rwa [List.append_nil, he] at hr

theorem Runs.trans {m n : Nat} {s t u : State} {es fs : List PinEvent} (h : Runs m s es t)
    (h' : Runs n t fs u) : Runs (m + n) s (es ++ fs) u := by
  induction h with
  | refl => simpa using h'
  | head h _ ih =>
    rw [Nat.succ_add, List.append_assoc]
    exact .head h (ih h')

@[simp] theorem edge_self (fall rise : PinEvent) (l : Level) : edge fall rise l l = [] := by
  cases l <;> rfl

/-! ### INIT as a whole -/

/-- A command offered between commands is run (30 R80). -/
theorem step_of_offers {s : State} {a : Inputs} {w : CmdWord} (hp : s.phase = .off ∨ s.phase = .idle)
    (hs : s.inputs = a) (ha : a.offers w) : step s = exec (decodeCommand w) s := by
  obtain ⟨hr, hv, hw⟩ := hs ▸ ha
  rw [stepRunsTheOfferedCommand s hr hp hv, hw]

theorem decodeCommand_initWord : decodeCommand 0x000000000#34 = .init 0#32 := by decide

theorem decodeCommand_trigreadWord : decodeCommand 0x100000000#34 = .trigread 0#32 := by decide

/-- Settles O34: step IN1, and then IN2 as TIMER starts at 0. -/
theorem wholeInitEndsInIdle : Obligations.WholeInitEndsInIdle := by
  intro s a b rest hp he ha hv hb
  have hsa : s.inputs = a := State.inputs_cons s a _ he
  have hsb : s.pass.stepIN1.inputs = b := State.inputs_cons _ b rest (by simp [he])
  have h₁ : step s = .next s.pass.stepIN1 := by
    rw [step_of_offers (.inl hp) hsa ha, decodeCommand_initWord, exec_init_of_busAvail _ hp (hsa ▸ hv)]
  have h₂ : step s.pass.stepIN1 = .next s.pass.stepIN1.pass.stepIN2 :=
    step_stepIN2 (hsb ▸ hb.1) rfl (by simpa [hsb] using hb.2)
  rw [run_succ_of_step 1 h₁, run_one h₂]
  simp [State.pass, State.stepIN1, State.stepIN2, State.respond, he]

/-! ### The bits of a read (40 R109, R113) -/

/-- SHIFT holds the bits that the clock periods sampled, the last one in bit 0. -/
def Sampled (ps : List ClockPeriod) (v : Option (BitVec 32)) : Prop :=
  ∀ k p, ps[k]? = some p → v.map (·.getLsbD (ps.length - 1 - k)) = some p.2.so

theorem Sampled.nil (v : Option (BitVec 32)) : Sampled [] v := fun _ _ h => by simp at h

theorem shiftIn_getLsbD_zero (v : BitVec 32) (b : Level) : (shiftIn v b).getLsbD 0 = b := by
  simp [shiftIn]

theorem shiftIn_getLsbD_succ (v : BitVec 32) (b : Level) {i : Nat} (hi : i + 1 < 32) :
    (shiftIn v b).getLsbD (i + 1) = v.getLsbD i := by
  simp [shiftIn, hi, BitVec.getLsbD_eq_getElem (Nat.lt_of_succ_lt hi)]

/-- A further bit moves the others up by one. -/
theorem Sampled.snoc {ps : List ClockPeriod} {v : Option (BitVec 32)} {old : BitVec 32}
    (h : Sampled ps v) (hlen : ps.length < 32) (hold : ∀ w, v = some w → old = w) (p : ClockPeriod) :
    Sampled (ps ++ [p]) (some (shiftIn old p.2.so)) := by
  intro k q hq
  rcases Nat.lt_or_ge k ps.length with hk | hk
  · rw [List.getElem?_append_left hk] at hq
    obtain ⟨w, hv, hw⟩ := Option.map_eq_some_iff.1 (h k q hq)
    obtain rfl := hold w hv
    have hi : (ps ++ [p]).length - 1 - k = (ps.length - 1 - k) + 1 := by simp; omega
    rw [hi, Option.map_some, shiftIn_getLsbD_succ _ _ (by omega), hw]
  · obtain ⟨hk', rfl⟩ : k = ps.length ∧ p = q := by
      rw [List.getElem?_append_right hk, List.getElem?_singleton] at hq
      split at hq
      next hz => exact ⟨by omega, Option.some.inj hq⟩
      next => cases hq
    rw [Option.map_some, hk', List.length_append, List.length_singleton, Nat.add_sub_cancel,
      Nat.sub_self, shiftIn_getLsbD_zero]

/-- 32 sampled bits are all of SHIFT. -/
theorem Sampled.eq_some {ps : List ClockPeriod} {v : Option (BitVec 32)} {d : Frame} (h : Sampled ps v)
    (hlen : ps.length = 32) (hd : ∀ k p, ps[k]? = some p → d.getLsbD (31 - k) = p.2.so) : v = some d := by
  have hbit : ∀ i < 32, v.map (·.getLsbD i) = some (d.getLsbD i) := by
    intro i hi
    have hp : ps[31 - i]? = some ps[31 - i] := List.getElem?_eq_getElem (by omega)
    have hv := h _ _ hp
    rw [← hd _ _ hp, hlen] at hv
    simpa [show 31 - (31 - i) = i by omega] using hv
  cases v with
  | none => cases hbit 0 (by decide)
  | some w =>
    congr 1
    exact BitVec.eq_of_getLsbD_eq fun i hi => by simpa using hbit i hi

/-! ### The pace of a read (70 R254, R258) -/

theorem nextStart_concat (ps : List ClockPeriod) (p : ClockPeriod) (e : Inputs) :
    nextStart (ps ++ [p]) e = nextStart ps p.1 := by
  cases ps <;> rfl

theorem periodsLast_concat (c : Config) (ps : List ClockPeriod) (p : ClockPeriod) (e : Inputs) :
    periodsLast c (ps ++ [p]) e ↔
      periodsLast c ps p.1 ∧ 1000000000 ≤ (p.2.elapsed + e.elapsed) * c.fSck := by
  induction ps with
  | nil => simp [periodsLast, nextStart]
  | cons q qs ih => simp [periodsLast, nextStart_concat, ih, and_assoc]

theorem paced_concat (c : Config) (ps : List ClockPeriod) (p : ClockPeriod) (e : Inputs) :
    paced c (ps ++ [p]) e ↔
      paced c ps p.1 ∧ 1000000000 ≤ (p.2.elapsed + e.elapsed) * c.fSck := by
  rw [paced, nextStart_concat, periodsLast_concat, and_assoc]

theorem clockInputs_concat (ps : List ClockPeriod) (p : ClockPeriod) (is : List Inputs) :
    clockInputs (ps ++ [p]) ++ is = clockInputs ps ++ p.1 :: p.2 :: is := by
  simp [clockInputs]

/-! ### The clock periods of a read -/

/-- The state in P_READ after a TRIGREAD accepted in `s` and `n` whole clock periods: what they leave in
SHIFT, the two clock times, and the inputs still to come. -/
def State.clocked (s : State) (n : Nat) (v : Option (BitVec 32)) (clk ed : Nat) (env : List Inputs) :
    State :=
  { s with
    phase := .read, csN := false, sck := false, shift := v, bitcnt := BitVec.ofNat 6 n, timer := 0
    clkTime := clk, edgeTime := ed, rsp := none, env := env, draws := s.draws + (3 + 2 * n) }

section
variable {s : State} {n clk ed : Nat} {v : Option (BitVec 32)} {e : Inputs} {rest : List Inputs}

@[simp] theorem State.clocked_cfg : (s.clocked n v clk ed rest).cfg = s.cfg := rfl
@[simp] theorem State.clocked_bitcnt : (s.clocked n v clk ed rest).bitcnt = BitVec.ofNat 6 n := rfl
@[simp] theorem State.clocked_clkTime : (s.clocked n v clk ed rest).clkTime = clk := rfl
@[simp] theorem State.clocked_edgeTime : (s.clocked n v clk ed rest).edgeTime = ed := rfl
@[simp] theorem State.clocked_inputs : (s.clocked n v clk ed (e :: rest)).inputs = e := rfl

theorem State.clocked_bitcnt_lt (hn : n < 32) : (s.clocked n v clk ed rest).bitcnt < 32#6 := by
  simp [BitVec.lt_def]
  omega

theorem State.clocked_bitDue_zero (hlead : s.cfg.tCsLead ≤ e.elapsed) :
    (s.clocked 0 v clk 0 (e :: rest)).bitDue = true := by
  simp [State.bitDue_iff, hlead]

theorem State.clocked_bitDue_iff (h0 : n ≠ 0) (hn : n ≤ 32) :
    (s.clocked n v clk ed (e :: rest)).bitDue = true ↔
      1000000000 ≤ (clk + e.elapsed) * s.cfg.fSck := by
  have hne : BitVec.ofNat 6 n ≠ 0#6 := by
    simp [BitVec.toNat_eq]
    omega
  simp [State.bitDue_iff, hne]

theorem State.clocked_clockFall {p : ClockPeriod} :
    (s.clocked n v clk ed (p.1 :: p.2 :: rest)).pass.stepTR4Rise.clockFall =
      s.clocked (n + 1) (some (shiftIn (v.getD (Config.freeShift (s.draws + (3 + 2 * n) + 1)))
        (s.clocked n v clk ed (p.1 :: p.2 :: rest)).pass.stepTR4Rise.sampledBit)) p.2.elapsed 0 rest := by
  rw [State.clockFall_stepTR4Rise (i := p.1) (j := p.2) (rest := rest) rfl]
  simp [State.clocked, BitVec.ofNat_add, Nat.mul_add, Nat.add_assoc]

/-- One more clock period of a read. -/
theorem runs_clockPeriod {p : ClockPeriod} (hn : n < 32) (hg : p.good)
    (hd : (s.clocked n v clk ed (p.1 :: p.2 :: rest)).bitDue = true) :
    ∃ old b, (∀ w, v = some w → old = w) ∧ (s.cfg.fSck ≤ 5000000 → b = p.2.so) ∧
      Runs 2 (s.clocked n v clk ed (p.1 :: p.2 :: rest)) [.sckRise, .sckFall]
        (s.clocked (n + 1) (some (shiftIn old b)) p.2.elapsed 0 rest) := by
  have he : (s.clocked n v clk ed (p.1 :: p.2 :: rest)).env = p.1 :: p.2 :: rest := rfl
  obtain ⟨hrise, hfall⟩ := step_clockPeriod he rfl (State.clocked_bitcnt_lt hn) rfl hd hg
  have hr := (Runs.single hrise rfl).trans (.single hfall rfl)
  rw [State.clocked_clockFall] at hr
  exact ⟨v.getD (Config.freeShift (s.draws + (3 + 2 * n) + 1)),
    (s.clocked n v clk ed (p.1 :: p.2 :: rest)).pass.stepTR4Rise.sampledBit,
    fun w hv => by simp [hv], State.sampledBit_stepTR4Rise he, hr⟩

/-- The release of the select line after a read of 32 bits. -/
theorem runs_release (hm : e.moves) (hd : (s.clocked 32 v clk ed (e :: rest)).bitDue = true)
    (hlag : s.cfg.tCsLag ≤ e.elapsed) :
    Runs 1 (s.clocked 32 v clk ed (e :: rest)) [.csRise]
      (s.clocked 32 v clk ed (e :: rest)).pass.stepTR5 := by
  have hrel : (s.clocked 32 v clk ed (e :: rest)).releaseDue = true := by
    rw [State.clocked_bitDue_iff (by decide) le_rfl] at hd
    simpa [State.releaseDue_iff, hd] using hlag.trans (Nat.le_add_left _ _)
  exact .single (step_stepTR5 hm rfl rfl hrel) rfl

end

/-! ### TRIGREAD as a whole -/

/-- The edges of a TRIGREAD with `n` whole clock periods, before the last of CS_N, the first one told from
the level that CS_N had (40 R112). -/
def readEdges (csN : Level) (n : Nat) : List PinEvent :=
  edge .csFall .csRise csN false ++ [PinEvent.csRise, PinEvent.csFall] ++
    (List.replicate n [PinEvent.sckRise, PinEvent.sckFall]).flatten

theorem readEdges_succ (csN : Level) (n : Nat) :
    readEdges csN (n + 1) = readEdges csN n ++ [PinEvent.sckRise, PinEvent.sckFall] := by
  simp [readEdges, List.replicate_succ']

section
variable {s : State} {a b c : Inputs} {tail : List Inputs} (hp : s.phase = .idle)
  (ha : a.offers 0x100000000#34) (hb : b.endsWait s.cfg.tTrig) (hc : c.endsWait s.cfg.tSettle)
include hp ha hb hc

/-- Up to the end of the settle wait; TIMER starts at 0 in each of the two waits. -/
theorem runs_trigread (he : s.env = a :: b :: c :: tail) :
    Runs 2 s (edge .csFall .csRise s.csN false ++ [.csRise]) s.pass.stepTR1.pass.stepTR2 ∧
    step s.pass.stepTR1.pass.stepTR2 = .next (s.pass.stepTR1.pass.stepTR2.pass.settled c.busFail) := by
  have hsa : s.inputs = a := State.inputs_cons s a _ he
  have hsb : s.pass.stepTR1.inputs = b := State.inputs_cons _ b (c :: tail) (by simp [he])
  have hsc : s.pass.stepTR1.pass.stepTR2.inputs = c := State.inputs_cons _ c tail (by simp [he])
  have h₁ : step s = .next s.pass.stepTR1 := by
    rw [step_of_offers (.inr hp) hsa ha, decodeCommand_trigreadWord, exec_trigread_of_idle _ hp]
  have h₂ : step s.pass.stepTR1 = .next s.pass.stepTR1.pass.stepTR2 :=
    step_stepTR2 (hsb ▸ hb.1) rfl (by simpa [hsb] using hb.2)
  have h₃ := step_settled (s := s.pass.stepTR1.pass.stepTR2) (hsc ▸ hc.1) rfl (by simpa [hsc] using hc.2)
  rw [hsc] at h₃
  exact ⟨(Runs.single h₁ (by simp [pinEdges])).trans (.single h₂ (by simp [pinEdges, edge])), h₃⟩

variable (hk : s.sck = false) (hf : c.busFail = false)
include hk hf

/-- Up to the start of the read transaction. -/
theorem runs_to_read (he : s.env = a :: b :: c :: tail) :
    Runs 3 s (readEdges s.csN 0) (s.clocked 0 s.shift 0 0 tail) := by
  obtain ⟨hruns, hstep⟩ := runs_trigread hp ha hb hc he
  have hread : s.pass.stepTR1.pass.stepTR2.pass.settled c.busFail = s.clocked 0 s.shift 0 0 tail := by
    simp [hf, State.settled, State.stepTR3, State.clocked, hk, he]
  rw [hread] at hstep
  have h := hruns.trans (.single hstep (es := [.csFall]) (by simp [pinEdges, edge, State.clocked, hk]))
  simpa [readEdges] using h

/-- After any number of clock periods, up to 32: their bits are in SHIFT, and the next edge is due at the
inputs that follow. By induction on the periods, the last one taken off. -/
theorem runs_clockPeriods {ps : List ClockPeriod} {e : Inputs} {rest : List Inputs}
    (he : s.env = a :: b :: c :: (clockInputs ps ++ e :: rest)) (hlen : ps.length ≤ 32)
    (hg : ∀ p ∈ ps, p.good) (hpaced : paced s.cfg ps e) :
    ∃ v clk ed, Runs (3 + 2 * ps.length) s (readEdges s.csN ps.length)
        (s.clocked ps.length v clk ed (e :: rest)) ∧
      (s.clocked ps.length v clk ed (e :: rest)).bitDue = true ∧
      (s.cfg.fSck ≤ 5000000 → Sampled ps v) := by
  induction ps using List.reverseRecOn generalizing e rest with
  | nil =>
    exact ⟨s.shift, 0, 0, runs_to_read hp ha hb hc hk hf he, State.clocked_bitDue_zero hpaced.1,
      fun _ => Sampled.nil _⟩
  | append_singleton ps p ih =>
    simp only [List.length_append, List.length_singleton, List.mem_append, List.mem_singleton] at hlen hg ⊢
    rw [clockInputs_concat] at he
    obtain ⟨hbefore, hlast⟩ := (paced_concat s.cfg ps p e).1 hpaced
    obtain ⟨v, clk, ed, hruns, hdue, hv⟩ := ih he (by omega) (fun q hq => hg q (.inl hq)) hbefore
    obtain ⟨old, bit, hold, hbit, hperiod⟩ := runs_clockPeriod hlen (hg p (.inr rfl)) hdue
    refine ⟨some (shiftIn old bit), p.2.elapsed, 0, ?_,
      (State.clocked_bitDue_iff (by omega) hlen).2 hlast, fun hc5 => ?_⟩
    · rw [readEdges_succ]
      exact hruns.trans hperiod
    · rw [hbit hc5]
      exact (hv hc5).snoc hlen hold p

/-- A TRIGREAD that ends with the frame. -/
theorem runs_completed {ps : List ClockPeriod} {e : Inputs} {rest : List Inputs}
    (he : s.env = a :: b :: c :: (clockInputs ps ++ e :: rest)) (hlen : ps.length = 32)
    (hg : ∀ p ∈ ps, p.good) (hm : e.moves) (hpaced : paced s.cfg ps e)
    (hlag : s.cfg.tCsLag ≤ e.elapsed) :
    ∃ v clk ed, (s.cfg.fSck ≤ 5000000 → Sampled ps v) ∧
      Runs 68 s (readEdges s.csN 32 ++ [.csRise]) (s.clocked 32 v clk ed (e :: rest)).pass.stepTR5 := by
  obtain ⟨v, clk, ed, hruns, hdue, hv⟩ := runs_clockPeriods hp ha hb hc hk hf he hlen.le hg hpaced
  rw [hlen] at hruns hdue
  exact ⟨v, clk, ed, hv, hruns.trans (runs_release hm hdue hlag)⟩

end

/-- Settles O35: TR5 delivers SHIFT, and 32 sampled bits are all of it. -/
theorem wholeTrigreadDeliversTheSampledFrame : Obligations.WholeTrigreadDeliversTheSampledFrame := by
  intro s a b c e ps rest d hp hk he ha hb hc hf hlen hg hm hpaced hlag hc5 hd
  obtain ⟨v, clk, ed, hv, hruns⟩ := runs_completed hp ha hb hc hk hf he hlen hg hm hpaced hlag
  rw [hruns.run_eq, (hv hc5).eq_some hlen hd]
  rfl

/-- Settles O36: the edges of the steps put together. -/
theorem pinEventsOfACompletedRead : Obligations.PinEventsOfACompletedRead := by
  intro s a b c e ps rest hp hk hcs he ha hb hc hf hlen hg hm hpaced hlag
  obtain ⟨v, clk, ed, -, hruns⟩ := runs_completed hp ha hb hc hk hf he hlen hg hm hpaced hlag
  rw [hruns.pinTrace_eq, hcs]
  rfl

/-- Settles O37: TR-E in place of TR3, and in place of the bit that the inputs `e` would begin. -/
theorem failedTrigreadKeepsTheOldFrame : Obligations.FailedTrigreadKeepsTheOldFrame := by
  intro s a b c hp hk ha hb hc
  refine ⟨fun rest he hf => ?_, fun ps e rest he hf hlen hg hm hef hpaced => ?_⟩
  · obtain ⟨hruns, hstep⟩ := runs_trigread hp ha hb hc he
    rw [(hruns.trans (.single hstep rfl)).run_eq, hf]
    simp [State.settled, State.raise, State.respond, State.pass, State.stepTR1, State.stepTR2, he]
  · obtain ⟨v, clk, ed, hruns, hdue, -⟩ := runs_clockPeriods hp ha hb hc hk hf he hlen.le hg hpaced
    have hfail : step (s.clocked ps.length v clk ed (e :: rest)) =
        .next ((s.clocked ps.length v clk ed (e :: rest)).pass.raise .busError) :=
      step_stepTRE_of_read hm hef rfl (State.clocked_bitcnt_lt hlen) rfl hdue
    have hn : 4 + 2 * ps.length = 3 + 2 * ps.length + 1 := by omega
    rw [hn, (hruns.trans (.single hfail rfl)).run_eq]
    rfl

end Sys2Proof.Machine
end

section
/-!
The decoder as a function (spec/41_frame_decoder.md): its fields, its counts as numbers, its inverse on
counts; and what the instructions that run it write and leave alone.
-/

namespace Sys2Proof

/-- The zero frame is the one `FRAME.Ok` frame whose fields are all zero (30 R74). -/
theorem okFrame_eq_zero_iff (t : FrameFields) (low : BitVec 3) :
    okFrame t low = 0#32 ↔ t = FrameFields.zero ∧ low = 0#3 := by
  rw [← not_iff_not, ← ne_eq, ← frameOk_wellFormed_iff]
  simp [Instr.wellFormed, imp_iff_not_or]

theorem flagClass_ok_iff (f : Frame) : flagClass f = .ok ↔ f.getLsbD 16 = false := by
  unfold flagClass
  cases f.getLsbD 16 with
  | false => simp
  | true => simp only [if_true]; split_ifs <;> simp

end Sys2Proof

namespace Sys2Proof.Machine

/-! ### Fields and classes (41 R141, R143, R148, R165) -/

theorem extract_eq_extractLsb' (f : Frame) (pos w : Nat) : extract f pos w = f.extractLsb' pos w :=
  BitVec.setWidth_ushiftRight_eq_extractLsb

theorem extract_toNat (f : Frame) (pos w : Nat) :
    (extract f pos w).toNat = f.toNat / 2 ^ pos % 2 ^ w := by
  rw [extract, BitVec.toNat_setWidth, BitVec.toNat_ushiftRight, Nat.shiftRight_eq_div_pow]

theorem extract_xor (f g : Frame) (pos w : Nat) :
    extract (f ^^^ g) pos w = extract f pos w ^^^ extract g pos w := by
  rw [extract, BitVec.ushiftRight_xor_distrib, BitVec.setWidth_xor]
  rfl

/-- The class `Ok` is that of the nonzero frames with bit 16 clear (41 R165). -/
theorem classify_ok_iff (f : Frame) : classify f = .ok ↔ f ≠ 0#32 ∧ f.getLsbD 16 = false := by
  rw [classify_eq, ← flagClass_ok_iff]
  split_ifs with hf <;> simp [hf]

theorem classify_readFailure_iff (f : Frame) : classify f = .readFailure ↔ f = 0#32 := by
  rw [classify_eq]
  split_ifs with hf <;> simp [hf, flagClass_ne_readFailure]

/-- Settles O6: the value, the slice, and the bits of a field. -/
theorem extractIsolatesItsBits : Obligations.ExtractIsolatesItsBits :=
  fun f pos w _ _ => ⟨extract_toNat f pos w, extract_eq_extractLsb' f pos w, fun _ h => extract_congr h⟩

/-- Settles O5: the chain of tests is the zero test and the class of the flag bits, as the rows are. -/
theorem classifyTestsBitsInOrder : Obligations.ClassifyTestsBitsInOrder :=
  fun f => ⟨classify_eq f, classify_eq_rowClass f⟩

/-- Settles O10: the two conditions on a frame are those of the class `Ok` and of a class that is neither
`Ok` nor `ReadFailure`. -/
theorem temperaturesExactlyWithoutTheFaultFlag : Obligations.TemperaturesExactlyWithoutTheFaultFlag := by
  refine ⟨fun signPos f hf h16 => decodeReading_of_ok signPos (classify_ok hf h16), fun signPos f h16 => ?_⟩
  rcases decodeReading_cases signPos f with ⟨c, hok, hclass, hdecode⟩ | ⟨hclass, -⟩
  · refine ⟨c, ?_, hok, hdecode⟩
    rw [← hclass, ne_eq, classify_readFailure_iff]
    exact ne_zero_of_getLsbD h16
  · obtain ⟨-, hclear⟩ := (classify_ok_iff f).1 hclass
    exact absurd (h16.symm.trans hclear) (by decide)

/-- Settles O9: each count sees the bits of its two fields only, and a quarter or a sixteenth of its range
is that of the Celsius value. -/
theorem temperatureFieldsAreIndependent : Obligations.TemperatureFieldsAreIndependent := by
  refine ⟨fun signPos f g h => tcCountOf_congr signPos fun i hlo hhi => h i hlo (by omega),
    fun signPos f g h => cjCountOf_congr signPos fun i hlo hhi => h i hlo (by omega), fun signPos f => ?_⟩
  have htc : (-8192 : ℚ) ≤ (tcCountOf signPos f).toInt ∧ ((tcCountOf signPos f).toInt : ℚ) ≤ 8191 := by
    exact_mod_cast tcCountOf_range signPos f
  have hcj : (-2048 : ℚ) ≤ (cjCountOf signPos f).toInt ∧ ((cjCountOf signPos f).toInt : ℚ) ≤ 2047 := by
    exact_mod_cast cjCountOf_range signPos f
  exact ⟨by linarith, by linarith, by linarith, by linarith⟩

/-! ### The two polarities (41 R147, R169) -/

/-- SIGN_POS = 1 reads a sign bit as SIGN_POS = 0 reads the inverted bit. -/
theorem signedCount_one {W : Nat} (v : BitVec W) (s : BitVec 1) :
    signedCount 1#1 v s = signedCount 0#1 v (~~~s) := by
  obtain rfl | rfl := BitVec.eq_zero_or_eq_one s <;> rfl

/-- Inverting the sign bit and leaving the field undoes the change of polarity. -/
theorem signedCount_xor_sign {W : Nat} (v : BitVec W) (s : BitVec 1) :
    signedCount 1#1 (v ^^^ 0#W) (s ^^^ 1#1) = signedCount 0#1 v s := by
  have hinv : ∀ s : BitVec 1, ~~~(s ^^^ 1#1) = s := by decide
  rw [signedCount_one, hinv, BitVec.xor_zero]

theorem tcCountOf_xor_signs (f : Frame) : tcCountOf 1#1 (f ^^^ 0x80008000#32) = tcCountOf 0#1 f := by
  rw [tcCountOf, extract_xor, extract_xor]
  exact signedCount_xor_sign _ _

theorem cjCountOf_xor_signs (f : Frame) : cjCountOf 1#1 (f ^^^ 0x80008000#32) = cjCountOf 0#1 f := by
  rw [cjCountOf, extract_xor, extract_xor]
  exact signedCount_xor_sign _ _

/-- Settles O13: bits 31 and 15 are in no class test but the zero test, and each is one count's sign. -/
theorem polarityInvertsBothSignBits : Obligations.PolarityInvertsBothSignBits := by
  intro f hf hne
  obtain ⟨-, h16⟩ := (classify_ok_iff f).1 hf
  have hok : classify (f ^^^ 0x80008000#32) = .ok := classify_ok hne (by rw [BitVec.getLsbD_xor, h16]; rfl)
  rw [decodeReading_of_ok _ hf, decodeReading_of_ok _ hok, tcCountOf_xor_signs, cjCountOf_xor_signs]

/-! ### Counts as numbers (41 R147, R150, R166) -/

/-- Each number of the range is the count of one field and one sign bit: the field holds it modulo `2^W`,
and the sign bit says whether it is negative (41 R147, R166). -/
theorem signedCount_toInt_eq_iff {W : Nat} (hW : W < 16) (signPos s : BitVec 1) (v : BitVec W) {k : Int}
    (hlo : -2 ^ W ≤ k) (hhi : k < 2 ^ W) :
    (signedCount signPos v s).toInt = k ↔ v = BitVec.ofInt W k ∧ s = signBit signPos k := by
  have hv : (v.toNat : Int) < 2 ^ W := by exact_mod_cast v.isLt
  have hfield : v = BitVec.ofInt W k ↔ (v.toNat : Int) = k % 2 ^ W := by
    rw [← BitVec.toNat_inj, BitVec.toNat_ofInt]
    have := Int.emod_nonneg k (b := 2 ^ W) (by positivity)
    push_cast
    omega
  have hsign : ∀ p s : BitVec 1, s = 1#1 - p ↔ s ≠ p := by decide
  rw [signedCount_toInt hW, hfield, signBit]
  by_cases hk : 0 ≤ k
  · rw [if_pos hk, Int.emod_eq_of_lt hk hhi]
    split_ifs with hs
    · rw [and_iff_left hs, sub_zero]
    · exact iff_of_false (by omega) fun h => hs h.2
  · have hmod : k % 2 ^ W = k + 2 ^ W := by
      rw [← Int.add_emod_right, Int.emod_eq_of_lt (by omega) (by omega)]
    rw [if_neg hk, hsign, hmod]
    split_ifs with hs
    · exact iff_of_false (by omega) fun h => h.2 hs
    · rw [and_iff_left hs]
      omega

/-- Sign bit and field are a two's-complement number of `W + 1` bits (41 R147). -/
theorem signedCount_zero_toInt {W : Nat} (hW : W < 16) (s : BitVec 1) (v : BitVec W) :
    (signedCount 0#1 v s).toInt = (s ++ v).toInt := by
  rw [signedCount_toInt hW, BitVec.toInt_append]
  obtain rfl | rfl := BitVec.eq_zero_or_eq_one s
  · simp
  · simp [sub_eq_neg_add]

/-- Settles O7: the closed form gives the range, and the field and the sign bit of a number. -/
theorem signedCountClosedForm : Obligations.SignedCountClosedForm := by
  intro W h
  have hW : W < 16 := by omega
  refine ⟨fun signPos s v => ?_, fun signPos k hlo hhi => ?_, signedCount_zero_toInt hW, fun s v => ?_⟩
  · obtain ⟨hlo, hhi⟩ := signedCount_range hW signPos s v
    exact ⟨signedCount_toInt hW signPos s v, hlo, by omega⟩
  · simp only [signedCount_toInt_eq_iff hW signPos _ _ hlo hhi]
    exact ⟨(BitVec.ofInt W k, signBit signPos k), ⟨rfl, rfl⟩, fun p hp => Prod.ext hp.1 hp.2⟩
  · rw [signedCount_one, signedCount_zero_toInt hW]

/-- Settles O8: neither numerator overflows its register, so the law holds as one of integers. -/
theorem fahrenheitIsExact : Obligations.FahrenheitIsExact := by
  refine ⟨fun n hlo hhi => ?_, fun m hlo hhi => ?_⟩
  · have hF := tcFahrenheit_toInt hlo hhi
    exact ⟨hF, by omega, by omega, by rw [hF]; push_cast; ring⟩
  · have hF := cjFahrenheit_toInt hlo hhi
    exact ⟨hF, by omega, by omega, by rw [hF]; push_cast; ring⟩

/-! ### The inverse of the decoder on counts (41 R166) -/

/-- The fields that the encoder on counts writes. -/
def encodedFields (signPos : BitVec 1) (n m : Int) : FrameFields :=
  { tcS := signBit signPos n
    tcV := BitVec.ofInt 13 n
    rsv17 := 0#1
    cjS := signBit signPos m
    cjV := BitVec.ofInt 11 m
    rsv3 := 0#1 }

/-- The encoder on counts writes the frame of a `FRAME.Ok` instruction with bits 2 to 0 clear. -/
theorem encodeTemps_eq_okFrame (signPos : BitVec 1) (n m : Int) :
    encodeTemps signPos n m = okFrame (encodedFields signPos n m) 0#3 := by
  unfold encodeTemps encodedFields
  generalize signBit signPos n = tcS, BitVec.ofInt 13 n = tcV, signBit signPos m = cjS,
    BitVec.ofInt 11 m = cjV
  apply BitVec.eq_of_getLsbD_eq
  intro i hi
  simp only [okFrame, frameOf, BitVec.getLsbD_append, BitVec.getLsbD_or, BitVec.getLsbD_shiftLeft,
    BitVec.getLsbD_setWidth]
  interval_cases i <;> simp

theorem encodeTemps_unused_bits (signPos : BitVec 1) (n m : Int) (i : Nat) (hi : i = 17 ∨ i = 16 ∨ i ≤ 3) :
    (encodeTemps signPos n m).getLsbD i = false := by
  rcases hi with rfl | rfl | hi
  · simp [encodeTemps]
  · simp [encodeTemps]
  · have hlow : ∀ k, 4 ≤ k → i < k := fun k hk => by omega
    simp [encodeTemps, hlow]

/-- A nonzero frame of class `Ok` decodes to the two counts of its fields (41 R151). -/
theorem decodeReading_okFrame (signPos : BitVec 1) {t : FrameFields} {low : BitVec 3}
    (h : okFrame t low ≠ 0#32) :
    decodeReading signPos (okFrame t low) =
      .temps (signedCount signPos t.tcV t.tcS) (signedCount signPos t.cjV t.cjS) := by
  have hok : classify (okFrame t low) = .ok := by
    rw [classify_eq_rowClass, rowClass_okFrame ((frameOk_wellFormed_iff t low).2 h)]
  rw [decodeReading_of_ok signPos hok]
  conv_rhs => rw [← frameFields_okFrame t low]
  rfl

/-- The field and the sign bit that the encoder writes for a number give its count back. -/
theorem signedCount_signBit {W : Nat} (hW : W < 16) (signPos : BitVec 1) {k : Int} (hlo : -2 ^ W ≤ k)
    (hhi : k < 2 ^ W) : signedCount signPos (BitVec.ofInt W k) (signBit signPos k) = BitVec.ofInt 16 k := by
  have hpow : (2 : Int) ^ W ≤ 2 ^ 15 := pow_le_pow_right₀ (by decide) (Nat.le_of_lt_succ hW)
  apply BitVec.eq_of_toInt_eq
  rw [(signedCount_toInt_eq_iff hW signPos _ _ hlo hhi).2 ⟨rfl, rfl⟩,
    BitVec.toInt_ofInt_eq_self (by decide) (by simp; omega) (by simp; omega)]

/-- The number whose field and sign bit are all zero: 0, or the least one where 0 means negative. -/
theorem ofInt_signBit_eq_zero_iff {W : Nat} (hW : W < 16) (signPos : BitVec 1) {k : Int} (hlo : -2 ^ W ≤ k)
    (hhi : k < 2 ^ W) :
    BitVec.ofInt W k = 0#W ∧ signBit signPos k = 0#1 ↔ k = if 0#1 = signPos then 0 else -2 ^ W := by
  have hcount := signedCount_toInt_eq_iff hW signPos 0#1 0#W hlo hhi
  rw [eq_comm (a := BitVec.ofInt W k), eq_comm (a := signBit signPos k), ← hcount, signedCount_toInt hW,
    eq_comm (a := k)]
  split_ifs <;> simp

theorem encodeTemps_eq_zero_iff (signPos : BitVec 1) {n m : Int} (hn : -8192 ≤ n) (hn' : n ≤ 8191)
    (hm : -2048 ≤ m) (hm' : m ≤ 2047) :
    encodeTemps signPos n m = 0#32 ↔
      (signPos = 0#1 ∧ n = 0 ∧ m = 0) ∨ (signPos = 1#1 ∧ n = -8192 ∧ m = -2048) := by
  have hfields : encodeTemps signPos n m = 0#32 ↔
      (BitVec.ofInt 13 n = 0#13 ∧ signBit signPos n = 0#1) ∧
      (BitVec.ofInt 11 m = 0#11 ∧ signBit signPos m = 0#1) := by
    rw [encodeTemps_eq_okFrame, okFrame_eq_zero_iff]
    simp only [encodedFields, FrameFields.zero, FrameFields.mk.injEq]
    tauto
  rw [hfields, ofInt_signBit_eq_zero_iff (by decide) signPos hn (by omega),
    ofInt_signBit_eq_zero_iff (by decide) signPos hm (by omega)]
  obtain rfl | rfl := BitVec.eq_zero_or_eq_one signPos <;> simp

/-- Settles O14: the encoder writes an `Ok` frame with the field and the sign bit of each count. -/
theorem decodeOfEncodedCounts : Obligations.DecodeOfEncodedCounts := by
  intro signPos n m hn hn' hm hm'
  refine ⟨encodeTemps_unused_bits signPos n m, fun hne => ?_, fun h0 => ?_,
    encodeTemps_eq_zero_iff signPos hn hn' hm hm'⟩
  · rw [encodeTemps_eq_okFrame] at hne ⊢
    rw [decodeReading_okFrame signPos hne, encodedFields,
      signedCount_signBit (by decide) signPos hn (by omega),
      signedCount_signBit (by decide) signPos hm (by omega)]
  · rw [h0]
    rfl

/-! ### What the instructions of the decoder write (41 R160 to R164) -/

section
variable (s : State)

theorem State.completeDecode_fault (c : FaultCode) :
    s.completeDecode (.fault c) =
      { s with
        fault := some c, resValid := true, tempValid := false
        tcCount := none, cjCount := none, tcF20 := none, cjF80 := none
        rsp := some ⟨.ok, none⟩, env := s.env.tail, draws := s.draws + 1 } := rfl

theorem State.completeDecode_temps (n m : Count) :
    s.completeDecode (.temps n m) =
      { s with
        fault := some .ok, resValid := true, tempValid := true
        tcCount := some n, cjCount := some m
        tcF20 := some (tcFahrenheit n), cjF80 := some (cjFahrenheit m)
        rsp := some ⟨.ok, none⟩, env := s.env.tail, draws := s.draws + 1 } := rfl

/-- `FRAME.Ok` completes with the counts of its operands; bits 2 to 0 and the reserved bits play no part. -/
theorem exec_frameOk (t : FrameFields) (low : BitVec 3) :
    exec (.frameOk t low) s = .next (s.completeDecode
      (.temps (signedCount s.cfg.signPos t.tcV t.tcS) (signedCount s.cfg.signPos t.cjV t.cjS))) := rfl

end

/-- Settles O15: the accepted branch completes with the result of the frame offered. -/
theorem decodeiWritesTheResultOfItsFrame : Obligations.DecodeiWritesTheResultOfItsFrame := by
  intro f s hp
  rw [exec_decodei f hp]
  exact ⟨fun c hc => by rw [hc, s.completeDecode_fault], fun n m h => by rw [h, s.completeDecode_temps]; rfl⟩

/-- Settles O16: the accepted branch completes with the result of RAWFRAME. -/
theorem decodeWritesTheResultOfRawframe : Obligations.DecodeWritesTheResultOfRawframe := by
  intro arg f s hp hv hf
  rw [exec_decode arg hp hv hf]
  exact ⟨fun c hc => by rw [hc, s.completeDecode_fault], fun n m h => by rw [h, s.completeDecode_temps]; rfl⟩

/-- Settles O17: the meaning of a frame of a fault class is the completion with its code. -/
theorem faultFramesReportTheirClass : Obligations.FaultFramesReportTheirClass := by
  intro t scg oc s
  have hdone (c : FaultCode) := congrArg (Host.Outcome.next (φ := Fault) (ρ := Refusal))
    (s.completeDecode_fault c)
  exact ⟨hdone _, hdone _, hdone _, hdone _, hdone _⟩

/-- Settles O18: the counts of the fields lie in the ranges in which no numerator overflows. -/
theorem okFrameReportsTwoTemperatures : Obligations.OkFrameReportsTwoTemperatures := by
  intro t low s
  obtain ⟨hn, hn'⟩ := signedCount_range (by decide) s.cfg.signPos t.tcS t.tcV
  obtain ⟨hm, hm'⟩ := signedCount_range (by decide) s.cfg.signPos t.cjS t.cjV
  refine ⟨_, _, _, _, signedCount_toInt (by decide) .., signedCount_toInt (by decide) ..,
    tcFahrenheit_toInt hn hn', cjFahrenheit_toInt hm hm', ?_⟩
  rw [exec_frameOk, s.completeDecode_temps]

/-- A completed decode leaves the registers of its result, whatever they held before. -/
theorem SameResults.completeDecode (s t : State) (r : Decoded) :
    SameResults (s.completeDecode r) (t.completeDecode r) := by
  cases r <;> exact ⟨rfl, rfl, rfl, rfl, rfl, rfl, rfl⟩

/-- Settles O20: both complete with the result of the one frame. -/
theorem decodeDependsOnlyOnItsFrame : Obligations.DecodeDependsOnlyOnItsFrame := by
  intro f s₁ s₂ t₁ t₂ arg hsign hp₁ hp₂ hv hf h₁ h₂
  rw [exec_decodei f hp₁, hsign] at h₁
  rw [exec_decode arg hp₂ hv hf] at h₂
  cases h₁
  cases h₂
  exact .completeDecode s₁ s₂ _

/-- An instruction of the decoder completes with some result, or it is refused and the step only passes. -/
theorem exec_decoder_cases {i : Instr} {s t : State} (hinit : ∀ arg, i ≠ .init arg)
    (htrig : ∀ arg, i ≠ .trigread arg) (h : exec i s = .next t) :
    (∃ r, t = s.completeDecode r) ∨ t = s.pass := by
  cases i with
  | init arg => exact absurd rfl (hinit arg)
  | trigread arg => exact absurd rfl (htrig arg)
  | decode arg => exact (exec_decode_cases h).imp_left fun ⟨f, _, _, ht⟩ => ⟨_, ht⟩
  | decodei f => exact (exec_decodei_cases h).imp_left fun ht => ⟨_, ht⟩
  | _ => cases h; exact .inl ⟨_, rfl⟩

/-- Settles O21: neither a completed decode nor a step that only passes writes a register named. -/
theorem decodersLeaveTheTransactorAlone : Obligations.DecodersLeaveTheTransactorAlone := by
  intro i s t hinit htrig h
  rcases exec_decoder_cases hinit htrig h with ⟨r, rfl⟩ | rfl <;> simp

end Sys2Proof.Machine
end

section
/-!
Between commands (spec/42_cycle_and_handoff.md): the step in which no command is offered, and SAMPLE, a
TRIGREAD followed by the DECODE of the frame that it read.
-/

namespace Sys2Proof.Machine

/-! ### No command offered (42 R183) -/

theorem State.offered_of_not_cmdValid {s : State} (hv : s.inputs.cmdValid = false) : s.offered = none := by
  simp [State.offered, hv]

/-- Between commands the sequencer has nothing to do. -/
theorem State.sequence_of_not_busy {s : State} (hp : s.phase = .off ∨ s.phase = .idle) :
    s.sequence = s.pass := by
  rcases hp with hp | hp <;> rw [State.sequence, hp]

/-- Settles O41: with no command offered the step is the sequencer's, which between commands only lets
the step pass. -/
theorem noTransactionStartsByItself : Obligations.NoTransactionStartsByItself := by
  intro s hr hp hv
  have hb : s.busy = false := s.not_busy_iff.2 hp
  have hpass : step s = .next s.pass := by
    simp [step, hr, hb, State.offered_of_not_cmdValid hv, State.sequence_of_not_busy hp]
  exact hpass

/-! ### SAMPLE (42 R180) -/

theorem decodeCommand_decodeWord : decodeCommand 0x200000000#34 = .decode 0#32 := by decide

@[simp] theorem State.clocked_shift (s : State) (n : Nat) (v : Option (BitVec 32)) (clk ed : Nat)
    (env : List Inputs) : (s.clocked n v clk ed env).shift = v := rfl

@[simp] theorem State.clocked_env (s : State) (n : Nat) (v : Option (BitVec 32)) (clk ed : Nat)
    (env : List Inputs) : (s.clocked n v clk ed env).env = env := rfl

/-- The second word of SAMPLE, offered in P_IDLE after a read that was delivered (30 R88). -/
theorem step_sampleSecond {s : State} {g : Inputs} {w : CmdWord} {d : Frame}
    (hw : sampleSecond .ok = some w) (hg : g.offers w) (hs : s.inputs = g) (hp : s.phase = .idle)
    (hv : s.rawValid = true) (hf : s.rawframe = some d) :
    step s = .next (s.completeDecode (decodeReading s.cfg.signPos d)) := by
  obtain rfl : 0x200000000#34 = w := Option.some.inj hw
  rw [step_of_offers (.inr hp) hs hg, decodeCommand_decodeWord, exec_decode _ (.inr hp) hv hf]

/-- Settles O38: the TRIGREAD ends with the sampled frame in RAWFRAME, and the DECODE after it completes
with the decoder's result for that frame. -/
theorem sampleDecodesTheFrameRead : Obligations.SampleDecodesTheFrameRead := by
  refine ⟨?_, rfl⟩
  intro s a b c e g ps rest d w hp hk he ha hb hc hf hlen hgood hm hpaced hlag hc5 hd hw hgw
  obtain ⟨v, clk, ed, hv, hread⟩ := runs_completed hp ha hb hc hk hf he hlen hgood hm hpaced hlag
  obtain rfl := (hv hc5).eq_some hlen hd
  have hdecode := step_sampleSecond (s := (s.clocked 32 (some d) clk ed (e :: g :: rest)).pass.stepTR5)
    hw hgw rfl rfl rfl rfl
  refine ⟨_, (hread.trans (.single hdecode rfl)).run_eq, ?_⟩
  cases hr : decodeReading s.cfg.signPos d with
  | temps n m => simp [hr, State.completeDecode_temps]
  | fault c => simp [hr, State.completeDecode_fault]

end Sys2Proof.Machine
end

section
/-!
No error and no refusal stops the block (spec/60_exceptions.md).
-/

namespace Sys2Proof.Machine

section
variable {s : State}

theorem step_of_rst (hr : s.inputs.rst = true) : step s = .next s.onReset := by
  simp [step, hr]

theorem step_of_offered {i : Instr} (hr : s.inputs.rst = false) (hb : s.busy = false)
    (ho : s.offered = some i) : step s = exec i s := by
  simp [step, hr, hb, ho]

theorem step_of_not_offered (hr : s.inputs.rst = false) (hb : s.busy = false)
    (ho : s.offered = none) : step s = .next s.sequence := by
  simp [step, hr, hb, ho]

end

/-- A refused command is a next state like an accepted one: the choice between them lies inside the
state that the meaning answers (60 R207, log 9). -/
theorem exec_eq_next (i : Instr) (s : State) : ∃ t, exec i s = .next t := by
  cases i <;> exact ⟨_, rfl⟩

/-- Beside an offered command, only the reset and the sequencer take a step, and both are functions
from state to state. -/
theorem step_eq_next (s : State) : ∃ t, step s = .next t := by
  cases hr : s.inputs.rst with
  | true => exact ⟨_, step_of_rst hr⟩
  | false =>
    cases hb : s.busy with
    | true => exact ⟨_, step_of_busy hr hb⟩
    | false =>
      cases ho : s.offered with
      | none => exact ⟨_, step_of_not_offered hr hb ho⟩
      | some i => rw [step_of_offered hr hb ho]; exact exec_eq_next i s

/-- Settles O44: every branch of a step answers a next state, and so does every instruction. -/
theorem nothingStopsTheBlock : Obligations.NothingStopsTheBlock :=
  ⟨step_eq_next, exec_eq_next⟩

end Sys2Proof.Machine
end

section
/-!
Reset and hazards (spec/70_reset_and_hazards.md): what a busy block ignores, how a wait is held, and
what reset leaves.
-/

namespace Sys2Proof.Machine

/-! ### The command port while a command is in progress (20 R62, R257) -/

section
variable {s : State}

theorem State.cmdReady_phase {op : CmdOp} (h : s.cmdReady op = true) : s.phase = .off ∨ s.phase = .idle := by
  cases op with
  | init => exact .inl (s.cmdReady_init.1 h)
  | trigread => exact .inr (s.cmdReady_trigread.1 h)
  | decode => exact (s.cmdReady_decode.1 h).1
  | decodei => exact s.cmdReady_decodei.1 h

theorem State.cmdReady_of_busy (hb : s.busy = true) (op : CmdOp) : s.cmdReady op = false := by
  refine Bool.eq_false_iff.2 fun hready => ?_
  have hidle : s.busy = false := s.not_busy_iff.2 (State.cmdReady_phase hready)
  simp [hb] at hidle

end

theorem step_next_of_busy {s : State} (hb : s.busy = true) :
    step s = .next (if s.inputs.rst then s.onReset else s.sequence) := by
  cases hr : s.inputs.rst with
  | true => exact step_of_rst hr
  | false => exact step_of_busy hr hb

/-- Neither reset nor the sequencer reads `cmd_valid` or `cmd_word`: what each leaves is the same by
definition for any two values of them. -/
theorem step_cmdPort_of_busy {s : State} (hb : s.busy = true) (i : Inputs) (rest : List Inputs)
    (v : Bool) (w : CmdWord) :
    step { s with env := i :: rest } =
      step { s with env := { i with cmdValid := v, cmdWord := w } :: rest } := by
  have hstep (k : Inputs) := step_next_of_busy (s := { s with env := k :: rest }) hb
  rw [hstep, hstep]
  rfl

/-- Settles O42: a ready command means P_OFF or P_IDLE, and the step of a busy block does not read the
command port. -/
theorem busyBlockIgnoresTheCommandPort : Obligations.BusyBlockIgnoresTheCommandPort := by
  intro s i j rest hp hij
  have hb : s.busy = true := s.busy_iff.2 hp
  refine ⟨State.cmdReady_of_busy hb, ?_⟩
  rw [hij]
  exact step_cmdPort_of_busy hb i rest _ _

/-! ### Waits that go on (R251, R256) -/

theorem State.waitStep_held {bound : Nat} (done : State → State) (s : State)
    (h : s.timer + s.inputs.elapsed < bound ∨ s.inputs.proceed = false) :
    s.waitStep bound done = s.passTime := by
  rw [State.waitStep, if_neg]
  rintro ⟨hproceed, hover⟩
  rcases h with hearly | hheld
  · omega
  · simp [hproceed] at hheld

theorem step_passClock_of_held {s : State} (hp : s.phase = .read) (hr : s.inputs.rst = false)
    (hheld : s.inputs.proceed = false) : step s = .next s.passClock := by
  simp [step_of_read hp hr, hheld]

/-- Settles O30: the step of each waiting phase is a wait with the bound of that phase, and a held step
of P_READ only counts time; the writes of both are those named. -/
theorem waitsAreNeverCutShort : Obligations.WaitsAreNeverCutShort := by
  refine fun s hr => ⟨fun bound hphase hwait => ?_, fun hp => step_passClock_of_held hp hr⟩
  have hpass : step s = .next s.passTime := by
    rcases hphase with ⟨hp, rfl⟩ | ⟨hp, rfl⟩ | ⟨hp, rfl⟩
    · rw [step_of_pwrup hp hr, State.waitStep_held _ s hwait]
    · rw [step_of_trig hp hr, State.waitStep_held _ s hwait]
    · rw [step_of_settle hp hr, State.waitStep_held _ s hwait]
  exact hpass

/-! ### Reset (R240, R241) -/

/-- In P_OFF with no frame held only INIT and DECODEI are ready (30 R81). -/
theorem State.cmdReady_iff_of_off {s : State} (hp : s.phase = .off) (hv : s.rawValid = false) (op : CmdOp) :
    s.cmdReady op = true ↔ op = .init ∨ op = .decodei := by
  cases op with
  | init => simp [s.cmdReady_init, hp]
  | trigread => simp [s.cmdReady_trigread, hp]
  | decode => simp [s.cmdReady_decode, hv]
  | decodei => simp [s.cmdReady_decodei, hp]

/-- Settles O43: what reset leaves is State.reset but for the configuration and the record of the
environment, which are no registers. -/
theorem resetOverridesEverything : Obligations.ResetOverridesEverything := by
  unfold Obligations.ResetOverridesEverything
  intro atReset
  have hreset (cfg : Config) (env : List Inputs) (draws : Nat) :
      atReset { State.reset with cfg := cfg, env := env, draws := draws } :=
    ⟨rfl, rfl, rfl, rfl, rfl, rfl, rfl, rfl, rfl, rfl, rfl, rfl, rfl, rfl, rfl, rfl,
      State.cmdReady_iff_of_off rfl rfl⟩
  exact ⟨hreset _ _ _, fun s hr => ⟨_, step_of_rst hr, hreset _ _ _, rfl⟩⟩

end Sys2Proof.Machine
end
